-- ==== Sys2Proof/Word.lean ====
section
/-! DEFINITION. The word types of the goboy CORE: 8-bit bytes and registers, 16-bit addresses (00_scope.md R6, R8, R9). -/

namespace Sys2Proof

/-- The 8-bit data unit: a register's or a memory cell's contents (00_scope.md R6). -/
abbrev Byte := BitVec 8

/-- A 16-bit address or address register, SP or PC (00_scope.md R6; 10_state.md R32, R33). -/
abbrev Addr := BitVec 16

end Sys2Proof
end

