-- ==== Sys2Proof/Config.lean ====
section
/-! DEFINITION. The configuration of the goboy CORE: the named parameters of 00_scope.md R7 with their defaults, and the cartridge image. -/

namespace Sys2Proof

/-- `CARRY_IN_MODE` of 00_scope.md R7: how ADC and SBC take the carry-in (41_alu.md R172, R174). -/
inductive CarryInMode where
  | operandIncrement8
  | sm83ThreeOperand
  deriving DecidableEq, Repr

/-- `CART_RAM_DISABLED_WRITE` of 00_scope.md R7: a write to disabled cartridge RAM (20_memory.md R90). -/
inductive RamDisabledWrite where
  | fault
  | ignore
  deriving DecidableEq, Repr

/-- The parameters of 00_scope.md R7 that a Console is run under.
`ADMITTED_PRIMARY` may only shrink (30_encoding.md R141), so it is held as the opcodes taken out of the full table.
DESIGN CHOICE (log entries 4 and 5), safe. -/
structure Params where
  carryInMode      : CarryInMode
  ramDisabledWrite : RamDisabledWrite
  removedPrimary   : List Byte
  deriving DecidableEq, Repr

/-- `ADMITTED_PRIMARY` as a test: the prefix byte 0xCB is always admitted (30_encoding.md R141). -/
def Params.admits (p : Params) (op : Byte) : Bool :=
  op == 0xCB || !p.removedPrimary.contains op

/-- A cartridge image (`IMAGE` of 00_scope.md R7), a finite byte sequence, also the form in which a
controller holds its `rom`: `size` bytes, of which the listed cells differ from 0x00.
DESIGN CHOICE (log entry 8), safe: a listing of every byte and this one name the same sequences. -/
structure Image where
  size  : Nat
  cells : List Host.Cell
  deriving DecidableEq, Repr

namespace Config

/-- The defaults of 00_scope.md R7. -/
def params : Params :=
  { carryInMode := .operandIncrement8, ramDisabledWrite := .fault, removedPrimary := [] }

/-- The image `State.reset` is built from: 32 KiB of 0x00, cartridge type 0.
DESIGN CHOICE (log entry 3), unsafe: the spec gives `IMAGE` no default, and no statement rests on this one. -/
def image : Image := { size := 0x8000, cells := [] }

end Config
end Sys2Proof
end

