-- ==== Sys2Proof/Syntax.lean ====
section
/-! DEFINITION. The whole syntax of the instruction set: operand names, the instruction formats and `Instr`, one constructor for each of the 360 rows of spec/opcode_table.json. -/

namespace Sys2Proof

/-- The eight operand ranks, in rank order 0 to 7 (10_state.md R24); `hlInd` is (HL), a memory byte (R25). -/
inductive Rank where
  | b | c | d | e | h | l | hlInd | a
  deriving DecidableEq, Repr

/-- The four register pairs (10_state.md R21), in the code order of PUSH and POP (30_encoding.md R130). -/
inductive Pair where
  | bc | de | hl | af
  deriving DecidableEq, Repr

/-- The destinations of a 16-bit immediate load, in the code order of format I16 (30_encoding.md R130). -/
inductive Dest16 where
  | bc | de | hl | sp
  deriving DecidableEq, Repr

/-- The indirect modes of format IND, in code order (30_encoding.md R131). -/
inductive IndMode where
  | bc | de | hlInc | hlDec
  deriving DecidableEq, Repr

/-- The conditions of JR cc, in code order (30_encoding.md R132). -/
inductive Cond where
  | nz | z | nc | c
  deriving DecidableEq, Repr

/-- The operations of the ALU block, in index order 0 to 7 (30_encoding.md R124; 41_alu.md R181). -/
inductive AluOp where
  | add | adc | sub | sbc | and | xor | or | cp
  deriving DecidableEq, Repr

/-- An instruction as the formats of 30_encoding.md R123–R129 and R142 write it: the operands are fields,
where `Instr` has one constructor for each opcode-table row. `Instr.form` (Decode.lean) relates the two. -/
inductive Form where
  | nop
  | halt
  | ld (dst src : Rank)
  | ldImm (dst : Rank) (d8 : Byte)
  | storeInd (m : IndMode)
  | loadInd (m : IndMode)
  | storeHigh (a8 : Byte)
  | loadHigh (a8 : Byte)
  | storeHighC
  | loadHighC
  | alu (op : AluOp) (src : Rank)
  | ldPair (dst : Dest16) (d16 : Addr)
  | push (q : Pair)
  | pop (q : Pair)
  | jr (e8 : Byte)
  | jrCond (cc : Cond) (e8 : Byte)
  | call (a16 : Addr)
  | ret
  | bit (n : Fin 8) (r : Rank)
  | res (n : Fin 8) (r : Rank)
  | set (n : Fin 8) (r : Rank)
  deriving DecidableEq, Repr

/-- One constructor for each row of spec/opcode_table.json, in the table's order.
`ldB_C` is LD B,C and `ldIndHL_B` is LD (HL),B; the comment of each line is the spec's mnemonic. -/
inductive Instr where
  | nop                      -- NOP
  | ldBC_D16 (d16 : Addr)    -- LD BC,d16
  | ldIndBC_A                -- LD (BC),A
  | ldB_D8 (d8 : Byte)       -- LD B,d8
  | ldA_IndBC                -- LD A,(BC)
  | ldC_D8 (d8 : Byte)       -- LD C,d8
  | ldDE_D16 (d16 : Addr)    -- LD DE,d16
  | ldIndDE_A                -- LD (DE),A
  | ldD_D8 (d8 : Byte)       -- LD D,d8
  | jr (e8 : Byte)           -- JR e8
  | ldA_IndDE                -- LD A,(DE)
  | ldE_D8 (d8 : Byte)       -- LD E,d8
  | jrNZ (e8 : Byte)         -- JR NZ,e8
  | ldHL_D16 (d16 : Addr)    -- LD HL,d16
  | ldIndHLInc_A             -- LD (HL+),A
  | ldH_D8 (d8 : Byte)       -- LD H,d8
  | jrZ (e8 : Byte)          -- JR Z,e8
  | ldA_IndHLInc             -- LD A,(HL+)
  | ldL_D8 (d8 : Byte)       -- LD L,d8
  | jrNC (e8 : Byte)         -- JR NC,e8
  | ldSP_D16 (d16 : Addr)    -- LD SP,d16
  | ldIndHLDec_A             -- LD (HL-),A
  | ldIndHL_D8 (d8 : Byte)   -- LD (HL),d8
  | jrC (e8 : Byte)          -- JR C,e8
  | ldA_IndHLDec             -- LD A,(HL-)
  | ldA_D8 (d8 : Byte)       -- LD A,d8
  | ldB_B                    -- LD B,B
  | ldB_C                    -- LD B,C
  | ldB_D                    -- LD B,D
  | ldB_E                    -- LD B,E
  | ldB_H                    -- LD B,H
  | ldB_L                    -- LD B,L
  | ldB_IndHL                -- LD B,(HL)
  | ldB_A                    -- LD B,A
  | ldC_B                    -- LD C,B
  | ldC_C                    -- LD C,C
  | ldC_D                    -- LD C,D
  | ldC_E                    -- LD C,E
  | ldC_H                    -- LD C,H
  | ldC_L                    -- LD C,L
  | ldC_IndHL                -- LD C,(HL)
  | ldC_A                    -- LD C,A
  | ldD_B                    -- LD D,B
  | ldD_C                    -- LD D,C
  | ldD_D                    -- LD D,D
  | ldD_E                    -- LD D,E
  | ldD_H                    -- LD D,H
  | ldD_L                    -- LD D,L
  | ldD_IndHL                -- LD D,(HL)
  | ldD_A                    -- LD D,A
  | ldE_B                    -- LD E,B
  | ldE_C                    -- LD E,C
  | ldE_D                    -- LD E,D
  | ldE_E                    -- LD E,E
  | ldE_H                    -- LD E,H
  | ldE_L                    -- LD E,L
  | ldE_IndHL                -- LD E,(HL)
  | ldE_A                    -- LD E,A
  | ldH_B                    -- LD H,B
  | ldH_C                    -- LD H,C
  | ldH_D                    -- LD H,D
  | ldH_E                    -- LD H,E
  | ldH_H                    -- LD H,H
  | ldH_L                    -- LD H,L
  | ldH_IndHL                -- LD H,(HL)
  | ldH_A                    -- LD H,A
  | ldL_B                    -- LD L,B
  | ldL_C                    -- LD L,C
  | ldL_D                    -- LD L,D
  | ldL_E                    -- LD L,E
  | ldL_H                    -- LD L,H
  | ldL_L                    -- LD L,L
  | ldL_IndHL                -- LD L,(HL)
  | ldL_A                    -- LD L,A
  | ldIndHL_B                -- LD (HL),B
  | ldIndHL_C                -- LD (HL),C
  | ldIndHL_D                -- LD (HL),D
  | ldIndHL_E                -- LD (HL),E
  | ldIndHL_H                -- LD (HL),H
  | ldIndHL_L                -- LD (HL),L
  | halt                     -- HALT
  | ldIndHL_A                -- LD (HL),A
  | ldA_B                    -- LD A,B
  | ldA_C                    -- LD A,C
  | ldA_D                    -- LD A,D
  | ldA_E                    -- LD A,E
  | ldA_H                    -- LD A,H
  | ldA_L                    -- LD A,L
  | ldA_IndHL                -- LD A,(HL)
  | ldA_A                    -- LD A,A
  | addA_B                   -- ADD A,B
  | addA_C                   -- ADD A,C
  | addA_D                   -- ADD A,D
  | addA_E                   -- ADD A,E
  | addA_H                   -- ADD A,H
  | addA_L                   -- ADD A,L
  | addA_IndHL               -- ADD A,(HL)
  | addA_A                   -- ADD A,A
  | adcA_B                   -- ADC A,B
  | adcA_C                   -- ADC A,C
  | adcA_D                   -- ADC A,D
  | adcA_E                   -- ADC A,E
  | adcA_H                   -- ADC A,H
  | adcA_L                   -- ADC A,L
  | adcA_IndHL               -- ADC A,(HL)
  | adcA_A                   -- ADC A,A
  | sub_B                    -- SUB B
  | sub_C                    -- SUB C
  | sub_D                    -- SUB D
  | sub_E                    -- SUB E
  | sub_H                    -- SUB H
  | sub_L                    -- SUB L
  | sub_IndHL                -- SUB (HL)
  | sub_A                    -- SUB A
  | sbcA_B                   -- SBC A,B
  | sbcA_C                   -- SBC A,C
  | sbcA_D                   -- SBC A,D
  | sbcA_E                   -- SBC A,E
  | sbcA_H                   -- SBC A,H
  | sbcA_L                   -- SBC A,L
  | sbcA_IndHL               -- SBC A,(HL)
  | sbcA_A                   -- SBC A,A
  | and_B                    -- AND B
  | and_C                    -- AND C
  | and_D                    -- AND D
  | and_E                    -- AND E
  | and_H                    -- AND H
  | and_L                    -- AND L
  | and_IndHL                -- AND (HL)
  | and_A                    -- AND A
  | xor_B                    -- XOR B
  | xor_C                    -- XOR C
  | xor_D                    -- XOR D
  | xor_E                    -- XOR E
  | xor_H                    -- XOR H
  | xor_L                    -- XOR L
  | xor_IndHL                -- XOR (HL)
  | xor_A                    -- XOR A
  | or_B                     -- OR B
  | or_C                     -- OR C
  | or_D                     -- OR D
  | or_E                     -- OR E
  | or_H                     -- OR H
  | or_L                     -- OR L
  | or_IndHL                 -- OR (HL)
  | or_A                     -- OR A
  | cp_B                     -- CP B
  | cp_C                     -- CP C
  | cp_D                     -- CP D
  | cp_E                     -- CP E
  | cp_H                     -- CP H
  | cp_L                     -- CP L
  | cp_IndHL                 -- CP (HL)
  | cp_A                     -- CP A
  | popBC                    -- POP BC
  | pushBC                   -- PUSH BC
  | ret                      -- RET
  | call (a16 : Addr)        -- CALL a16
  | popDE                    -- POP DE
  | pushDE                   -- PUSH DE
  | ldhIndA8_A (a8 : Byte)   -- LDH (a8),A
  | popHL                    -- POP HL
  | ldIndC_A                 -- LD (C),A
  | pushHL                   -- PUSH HL
  | ldhA_IndA8 (a8 : Byte)   -- LDH A,(a8)
  | popAF                    -- POP AF
  | ldA_IndC                 -- LD A,(C)
  | pushAF                   -- PUSH AF
  | bit0_B                   -- BIT 0,B
  | bit0_C                   -- BIT 0,C
  | bit0_D                   -- BIT 0,D
  | bit0_E                   -- BIT 0,E
  | bit0_H                   -- BIT 0,H
  | bit0_L                   -- BIT 0,L
  | bit0_IndHL               -- BIT 0,(HL)
  | bit0_A                   -- BIT 0,A
  | bit1_B                   -- BIT 1,B
  | bit1_C                   -- BIT 1,C
  | bit1_D                   -- BIT 1,D
  | bit1_E                   -- BIT 1,E
  | bit1_H                   -- BIT 1,H
  | bit1_L                   -- BIT 1,L
  | bit1_IndHL               -- BIT 1,(HL)
  | bit1_A                   -- BIT 1,A
  | bit2_B                   -- BIT 2,B
  | bit2_C                   -- BIT 2,C
  | bit2_D                   -- BIT 2,D
  | bit2_E                   -- BIT 2,E
  | bit2_H                   -- BIT 2,H
  | bit2_L                   -- BIT 2,L
  | bit2_IndHL               -- BIT 2,(HL)
  | bit2_A                   -- BIT 2,A
  | bit3_B                   -- BIT 3,B
  | bit3_C                   -- BIT 3,C
  | bit3_D                   -- BIT 3,D
  | bit3_E                   -- BIT 3,E
  | bit3_H                   -- BIT 3,H
  | bit3_L                   -- BIT 3,L
  | bit3_IndHL               -- BIT 3,(HL)
  | bit3_A                   -- BIT 3,A
  | bit4_B                   -- BIT 4,B
  | bit4_C                   -- BIT 4,C
  | bit4_D                   -- BIT 4,D
  | bit4_E                   -- BIT 4,E
  | bit4_H                   -- BIT 4,H
  | bit4_L                   -- BIT 4,L
  | bit4_IndHL               -- BIT 4,(HL)
  | bit4_A                   -- BIT 4,A
  | bit5_B                   -- BIT 5,B
  | bit5_C                   -- BIT 5,C
  | bit5_D                   -- BIT 5,D
  | bit5_E                   -- BIT 5,E
  | bit5_H                   -- BIT 5,H
  | bit5_L                   -- BIT 5,L
  | bit5_IndHL               -- BIT 5,(HL)
  | bit5_A                   -- BIT 5,A
  | bit6_B                   -- BIT 6,B
  | bit6_C                   -- BIT 6,C
  | bit6_D                   -- BIT 6,D
  | bit6_E                   -- BIT 6,E
  | bit6_H                   -- BIT 6,H
  | bit6_L                   -- BIT 6,L
  | bit6_IndHL               -- BIT 6,(HL)
  | bit6_A                   -- BIT 6,A
  | bit7_B                   -- BIT 7,B
  | bit7_C                   -- BIT 7,C
  | bit7_D                   -- BIT 7,D
  | bit7_E                   -- BIT 7,E
  | bit7_H                   -- BIT 7,H
  | bit7_L                   -- BIT 7,L
  | bit7_IndHL               -- BIT 7,(HL)
  | bit7_A                   -- BIT 7,A
  | res0_B                   -- RES 0,B
  | res0_C                   -- RES 0,C
  | res0_D                   -- RES 0,D
  | res0_E                   -- RES 0,E
  | res0_H                   -- RES 0,H
  | res0_L                   -- RES 0,L
  | res0_IndHL               -- RES 0,(HL)
  | res0_A                   -- RES 0,A
  | res1_B                   -- RES 1,B
  | res1_C                   -- RES 1,C
  | res1_D                   -- RES 1,D
  | res1_E                   -- RES 1,E
  | res1_H                   -- RES 1,H
  | res1_L                   -- RES 1,L
  | res1_IndHL               -- RES 1,(HL)
  | res1_A                   -- RES 1,A
  | res2_B                   -- RES 2,B
  | res2_C                   -- RES 2,C
  | res2_D                   -- RES 2,D
  | res2_E                   -- RES 2,E
  | res2_H                   -- RES 2,H
  | res2_L                   -- RES 2,L
  | res2_IndHL               -- RES 2,(HL)
  | res2_A                   -- RES 2,A
  | res3_B                   -- RES 3,B
  | res3_C                   -- RES 3,C
  | res3_D                   -- RES 3,D
  | res3_E                   -- RES 3,E
  | res3_H                   -- RES 3,H
  | res3_L                   -- RES 3,L
  | res3_IndHL               -- RES 3,(HL)
  | res3_A                   -- RES 3,A
  | res4_B                   -- RES 4,B
  | res4_C                   -- RES 4,C
  | res4_D                   -- RES 4,D
  | res4_E                   -- RES 4,E
  | res4_H                   -- RES 4,H
  | res4_L                   -- RES 4,L
  | res4_IndHL               -- RES 4,(HL)
  | res4_A                   -- RES 4,A
  | res5_B                   -- RES 5,B
  | res5_C                   -- RES 5,C
  | res5_D                   -- RES 5,D
  | res5_E                   -- RES 5,E
  | res5_H                   -- RES 5,H
  | res5_L                   -- RES 5,L
  | res5_IndHL               -- RES 5,(HL)
  | res5_A                   -- RES 5,A
  | res6_B                   -- RES 6,B
  | res6_C                   -- RES 6,C
  | res6_D                   -- RES 6,D
  | res6_E                   -- RES 6,E
  | res6_H                   -- RES 6,H
  | res6_L                   -- RES 6,L
  | res6_IndHL               -- RES 6,(HL)
  | res6_A                   -- RES 6,A
  | res7_B                   -- RES 7,B
  | res7_C                   -- RES 7,C
  | res7_D                   -- RES 7,D
  | res7_E                   -- RES 7,E
  | res7_H                   -- RES 7,H
  | res7_L                   -- RES 7,L
  | res7_IndHL               -- RES 7,(HL)
  | res7_A                   -- RES 7,A
  | set0_B                   -- SET 0,B
  | set0_C                   -- SET 0,C
  | set0_D                   -- SET 0,D
  | set0_E                   -- SET 0,E
  | set0_H                   -- SET 0,H
  | set0_L                   -- SET 0,L
  | set0_IndHL               -- SET 0,(HL)
  | set0_A                   -- SET 0,A
  | set1_B                   -- SET 1,B
  | set1_C                   -- SET 1,C
  | set1_D                   -- SET 1,D
  | set1_E                   -- SET 1,E
  | set1_H                   -- SET 1,H
  | set1_L                   -- SET 1,L
  | set1_IndHL               -- SET 1,(HL)
  | set1_A                   -- SET 1,A
  | set2_B                   -- SET 2,B
  | set2_C                   -- SET 2,C
  | set2_D                   -- SET 2,D
  | set2_E                   -- SET 2,E
  | set2_H                   -- SET 2,H
  | set2_L                   -- SET 2,L
  | set2_IndHL               -- SET 2,(HL)
  | set2_A                   -- SET 2,A
  | set3_B                   -- SET 3,B
  | set3_C                   -- SET 3,C
  | set3_D                   -- SET 3,D
  | set3_E                   -- SET 3,E
  | set3_H                   -- SET 3,H
  | set3_L                   -- SET 3,L
  | set3_IndHL               -- SET 3,(HL)
  | set3_A                   -- SET 3,A
  | set4_B                   -- SET 4,B
  | set4_C                   -- SET 4,C
  | set4_D                   -- SET 4,D
  | set4_E                   -- SET 4,E
  | set4_H                   -- SET 4,H
  | set4_L                   -- SET 4,L
  | set4_IndHL               -- SET 4,(HL)
  | set4_A                   -- SET 4,A
  | set5_B                   -- SET 5,B
  | set5_C                   -- SET 5,C
  | set5_D                   -- SET 5,D
  | set5_E                   -- SET 5,E
  | set5_H                   -- SET 5,H
  | set5_L                   -- SET 5,L
  | set5_IndHL               -- SET 5,(HL)
  | set5_A                   -- SET 5,A
  | set6_B                   -- SET 6,B
  | set6_C                   -- SET 6,C
  | set6_D                   -- SET 6,D
  | set6_E                   -- SET 6,E
  | set6_H                   -- SET 6,H
  | set6_L                   -- SET 6,L
  | set6_IndHL               -- SET 6,(HL)
  | set6_A                   -- SET 6,A
  | set7_B                   -- SET 7,B
  | set7_C                   -- SET 7,C
  | set7_D                   -- SET 7,D
  | set7_E                   -- SET 7,E
  | set7_H                   -- SET 7,H
  | set7_L                   -- SET 7,L
  | set7_IndHL               -- SET 7,(HL)
  | set7_A                   -- SET 7,A
  deriving DecidableEq, Repr

end Sys2Proof
end

