-- ==== Sys2Proof/Decode.lean ====
section
/-! DEFINITION. Decoding and encoding (30_encoding.md): operand codes, the formats' bit layouts, `decode` (total on any bytes, rejecting by name), `encode`, and the opcode table's words. -/

namespace Sys2Proof

/-! ## Bytes of a word -/

/-- `hi:lo = hi*256 + lo` (00_scope.md R9). -/
def wordOfBytes (hi lo : Byte) : Addr := hi ++ lo

/-- `v[15:8]` (00_scope.md R8). -/
def highByte (v : Addr) : Byte := v.extractLsb' 8 8

/-- `v[7:0]` (00_scope.md R8). -/
def lowByte (v : Addr) : Byte := v.extractLsb' 0 8

/-! ## Operand codes -/

/-- The code of a rank, the field `ddd`, `sss` or `rrr` (10_state.md R24). -/
def Rank.code : Rank → BitVec 3
  | .b => 0 | .c => 1 | .d => 2 | .e => 3 | .h => 4 | .l => 5 | .hlInd => 6 | .a => 7

/-- The rank a 3-bit field names (10_state.md R24). -/
def Rank.ofCode (x : BitVec 3) : Rank :=
  match x.toNat with
  | 0 => .b | 1 => .c | 2 => .d | 3 => .e | 4 => .h | 5 => .l | 6 => .hlInd | _ => .a

/-- The pair code `qq` of PUSH and POP (30_encoding.md R130). -/
def Pair.code : Pair → BitVec 2
  | .bc => 0 | .de => 1 | .hl => 2 | .af => 3

/-- The pair a `qq` field names (30_encoding.md R130). -/
def Pair.ofCode (x : BitVec 2) : Pair :=
  match x.toNat with
  | 0 => .bc | 1 => .de | 2 => .hl | _ => .af

/-- The pair code `pp` of format I16 (30_encoding.md R130). -/
def Dest16.code : Dest16 → BitVec 2
  | .bc => 0 | .de => 1 | .hl => 2 | .sp => 3

/-- The destination a `pp` field names (30_encoding.md R130). -/
def Dest16.ofCode (x : BitVec 2) : Dest16 :=
  match x.toNat with
  | 0 => .bc | 1 => .de | 2 => .hl | _ => .sp

/-- The indirect mode code `mm` of format IND (30_encoding.md R131). -/
def IndMode.code : IndMode → BitVec 2
  | .bc => 0 | .de => 1 | .hlInc => 2 | .hlDec => 3

/-- The indirect mode a `mm` field names (30_encoding.md R131). -/
def IndMode.ofCode (x : BitVec 2) : IndMode :=
  match x.toNat with
  | 0 => .bc | 1 => .de | 2 => .hlInc | _ => .hlDec

/-- The condition code `cc` of JR cc (30_encoding.md R132). -/
def Cond.code : Cond → BitVec 2
  | .nz => 0 | .z => 1 | .nc => 2 | .c => 3

/-- The condition a `cc` field names (30_encoding.md R132). -/
def Cond.ofCode (x : BitVec 2) : Cond :=
  match x.toNat with
  | 0 => .nz | 1 => .z | 2 => .nc | _ => .c

/-- The operation index `ooo` of format ALU (30_encoding.md R124). -/
def AluOp.code : AluOp → BitVec 3
  | .add => 0 | .adc => 1 | .sub => 2 | .sbc => 3 | .and => 4 | .xor => 5 | .or => 6 | .cp => 7

/-- The operation an `ooo` field names (30_encoding.md R124; 41_alu.md R181). -/
def AluOp.ofCode (x : BitVec 3) : AluOp :=
  match x.toNat with
  | 0 => .add | 1 => .adc | 2 => .sub | 3 => .sbc | 4 => .and | 5 => .xor | 6 => .or | _ => .cp

/-! ## Instructions and formats -/

/-- The format and operand fields of an instruction (30_encoding.md R123–R129, R134, R142). -/
def Instr.form : Instr → Form
  | .nop => .nop
  | .ldBC_D16 d16 => .ldPair .bc d16
  | .ldIndBC_A => .storeInd .bc
  | .ldB_D8 d8 => .ldImm .b d8
  | .ldA_IndBC => .loadInd .bc
  | .ldC_D8 d8 => .ldImm .c d8
  | .ldDE_D16 d16 => .ldPair .de d16
  | .ldIndDE_A => .storeInd .de
  | .ldD_D8 d8 => .ldImm .d d8
  | .jr e8 => .jr e8
  | .ldA_IndDE => .loadInd .de
  | .ldE_D8 d8 => .ldImm .e d8
  | .jrNZ e8 => .jrCond .nz e8
  | .ldHL_D16 d16 => .ldPair .hl d16
  | .ldIndHLInc_A => .storeInd .hlInc
  | .ldH_D8 d8 => .ldImm .h d8
  | .jrZ e8 => .jrCond .z e8
  | .ldA_IndHLInc => .loadInd .hlInc
  | .ldL_D8 d8 => .ldImm .l d8
  | .jrNC e8 => .jrCond .nc e8
  | .ldSP_D16 d16 => .ldPair .sp d16
  | .ldIndHLDec_A => .storeInd .hlDec
  | .ldIndHL_D8 d8 => .ldImm .hlInd d8
  | .jrC e8 => .jrCond .c e8
  | .ldA_IndHLDec => .loadInd .hlDec
  | .ldA_D8 d8 => .ldImm .a d8
  | .ldB_B => .ld .b .b
  | .ldB_C => .ld .b .c
  | .ldB_D => .ld .b .d
  | .ldB_E => .ld .b .e
  | .ldB_H => .ld .b .h
  | .ldB_L => .ld .b .l
  | .ldB_IndHL => .ld .b .hlInd
  | .ldB_A => .ld .b .a
  | .ldC_B => .ld .c .b
  | .ldC_C => .ld .c .c
  | .ldC_D => .ld .c .d
  | .ldC_E => .ld .c .e
  | .ldC_H => .ld .c .h
  | .ldC_L => .ld .c .l
  | .ldC_IndHL => .ld .c .hlInd
  | .ldC_A => .ld .c .a
  | .ldD_B => .ld .d .b
  | .ldD_C => .ld .d .c
  | .ldD_D => .ld .d .d
  | .ldD_E => .ld .d .e
  | .ldD_H => .ld .d .h
  | .ldD_L => .ld .d .l
  | .ldD_IndHL => .ld .d .hlInd
  | .ldD_A => .ld .d .a
  | .ldE_B => .ld .e .b
  | .ldE_C => .ld .e .c
  | .ldE_D => .ld .e .d
  | .ldE_E => .ld .e .e
  | .ldE_H => .ld .e .h
  | .ldE_L => .ld .e .l
  | .ldE_IndHL => .ld .e .hlInd
  | .ldE_A => .ld .e .a
  | .ldH_B => .ld .h .b
  | .ldH_C => .ld .h .c
  | .ldH_D => .ld .h .d
  | .ldH_E => .ld .h .e
  | .ldH_H => .ld .h .h
  | .ldH_L => .ld .h .l
  | .ldH_IndHL => .ld .h .hlInd
  | .ldH_A => .ld .h .a
  | .ldL_B => .ld .l .b
  | .ldL_C => .ld .l .c
  | .ldL_D => .ld .l .d
  | .ldL_E => .ld .l .e
  | .ldL_H => .ld .l .h
  | .ldL_L => .ld .l .l
  | .ldL_IndHL => .ld .l .hlInd
  | .ldL_A => .ld .l .a
  | .ldIndHL_B => .ld .hlInd .b
  | .ldIndHL_C => .ld .hlInd .c
  | .ldIndHL_D => .ld .hlInd .d
  | .ldIndHL_E => .ld .hlInd .e
  | .ldIndHL_H => .ld .hlInd .h
  | .ldIndHL_L => .ld .hlInd .l
  | .halt => .halt
  | .ldIndHL_A => .ld .hlInd .a
  | .ldA_B => .ld .a .b
  | .ldA_C => .ld .a .c
  | .ldA_D => .ld .a .d
  | .ldA_E => .ld .a .e
  | .ldA_H => .ld .a .h
  | .ldA_L => .ld .a .l
  | .ldA_IndHL => .ld .a .hlInd
  | .ldA_A => .ld .a .a
  | .addA_B => .alu .add .b
  | .addA_C => .alu .add .c
  | .addA_D => .alu .add .d
  | .addA_E => .alu .add .e
  | .addA_H => .alu .add .h
  | .addA_L => .alu .add .l
  | .addA_IndHL => .alu .add .hlInd
  | .addA_A => .alu .add .a
  | .adcA_B => .alu .adc .b
  | .adcA_C => .alu .adc .c
  | .adcA_D => .alu .adc .d
  | .adcA_E => .alu .adc .e
  | .adcA_H => .alu .adc .h
  | .adcA_L => .alu .adc .l
  | .adcA_IndHL => .alu .adc .hlInd
  | .adcA_A => .alu .adc .a
  | .sub_B => .alu .sub .b
  | .sub_C => .alu .sub .c
  | .sub_D => .alu .sub .d
  | .sub_E => .alu .sub .e
  | .sub_H => .alu .sub .h
  | .sub_L => .alu .sub .l
  | .sub_IndHL => .alu .sub .hlInd
  | .sub_A => .alu .sub .a
  | .sbcA_B => .alu .sbc .b
  | .sbcA_C => .alu .sbc .c
  | .sbcA_D => .alu .sbc .d
  | .sbcA_E => .alu .sbc .e
  | .sbcA_H => .alu .sbc .h
  | .sbcA_L => .alu .sbc .l
  | .sbcA_IndHL => .alu .sbc .hlInd
  | .sbcA_A => .alu .sbc .a
  | .and_B => .alu .and .b
  | .and_C => .alu .and .c
  | .and_D => .alu .and .d
  | .and_E => .alu .and .e
  | .and_H => .alu .and .h
  | .and_L => .alu .and .l
  | .and_IndHL => .alu .and .hlInd
  | .and_A => .alu .and .a
  | .xor_B => .alu .xor .b
  | .xor_C => .alu .xor .c
  | .xor_D => .alu .xor .d
  | .xor_E => .alu .xor .e
  | .xor_H => .alu .xor .h
  | .xor_L => .alu .xor .l
  | .xor_IndHL => .alu .xor .hlInd
  | .xor_A => .alu .xor .a
  | .or_B => .alu .or .b
  | .or_C => .alu .or .c
  | .or_D => .alu .or .d
  | .or_E => .alu .or .e
  | .or_H => .alu .or .h
  | .or_L => .alu .or .l
  | .or_IndHL => .alu .or .hlInd
  | .or_A => .alu .or .a
  | .cp_B => .alu .cp .b
  | .cp_C => .alu .cp .c
  | .cp_D => .alu .cp .d
  | .cp_E => .alu .cp .e
  | .cp_H => .alu .cp .h
  | .cp_L => .alu .cp .l
  | .cp_IndHL => .alu .cp .hlInd
  | .cp_A => .alu .cp .a
  | .popBC => .pop .bc
  | .pushBC => .push .bc
  | .ret => .ret
  | .call a16 => .call a16
  | .popDE => .pop .de
  | .pushDE => .push .de
  | .ldhIndA8_A a8 => .storeHigh a8
  | .popHL => .pop .hl
  | .ldIndC_A => .storeHighC
  | .pushHL => .push .hl
  | .ldhA_IndA8 a8 => .loadHigh a8
  | .popAF => .pop .af
  | .ldA_IndC => .loadHighC
  | .pushAF => .push .af
  | .bit0_B => .bit 0 .b
  | .bit0_C => .bit 0 .c
  | .bit0_D => .bit 0 .d
  | .bit0_E => .bit 0 .e
  | .bit0_H => .bit 0 .h
  | .bit0_L => .bit 0 .l
  | .bit0_IndHL => .bit 0 .hlInd
  | .bit0_A => .bit 0 .a
  | .bit1_B => .bit 1 .b
  | .bit1_C => .bit 1 .c
  | .bit1_D => .bit 1 .d
  | .bit1_E => .bit 1 .e
  | .bit1_H => .bit 1 .h
  | .bit1_L => .bit 1 .l
  | .bit1_IndHL => .bit 1 .hlInd
  | .bit1_A => .bit 1 .a
  | .bit2_B => .bit 2 .b
  | .bit2_C => .bit 2 .c
  | .bit2_D => .bit 2 .d
  | .bit2_E => .bit 2 .e
  | .bit2_H => .bit 2 .h
  | .bit2_L => .bit 2 .l
  | .bit2_IndHL => .bit 2 .hlInd
  | .bit2_A => .bit 2 .a
  | .bit3_B => .bit 3 .b
  | .bit3_C => .bit 3 .c
  | .bit3_D => .bit 3 .d
  | .bit3_E => .bit 3 .e
  | .bit3_H => .bit 3 .h
  | .bit3_L => .bit 3 .l
  | .bit3_IndHL => .bit 3 .hlInd
  | .bit3_A => .bit 3 .a
  | .bit4_B => .bit 4 .b
  | .bit4_C => .bit 4 .c
  | .bit4_D => .bit 4 .d
  | .bit4_E => .bit 4 .e
  | .bit4_H => .bit 4 .h
  | .bit4_L => .bit 4 .l
  | .bit4_IndHL => .bit 4 .hlInd
  | .bit4_A => .bit 4 .a
  | .bit5_B => .bit 5 .b
  | .bit5_C => .bit 5 .c
  | .bit5_D => .bit 5 .d
  | .bit5_E => .bit 5 .e
  | .bit5_H => .bit 5 .h
  | .bit5_L => .bit 5 .l
  | .bit5_IndHL => .bit 5 .hlInd
  | .bit5_A => .bit 5 .a
  | .bit6_B => .bit 6 .b
  | .bit6_C => .bit 6 .c
  | .bit6_D => .bit 6 .d
  | .bit6_E => .bit 6 .e
  | .bit6_H => .bit 6 .h
  | .bit6_L => .bit 6 .l
  | .bit6_IndHL => .bit 6 .hlInd
  | .bit6_A => .bit 6 .a
  | .bit7_B => .bit 7 .b
  | .bit7_C => .bit 7 .c
  | .bit7_D => .bit 7 .d
  | .bit7_E => .bit 7 .e
  | .bit7_H => .bit 7 .h
  | .bit7_L => .bit 7 .l
  | .bit7_IndHL => .bit 7 .hlInd
  | .bit7_A => .bit 7 .a
  | .res0_B => .res 0 .b
  | .res0_C => .res 0 .c
  | .res0_D => .res 0 .d
  | .res0_E => .res 0 .e
  | .res0_H => .res 0 .h
  | .res0_L => .res 0 .l
  | .res0_IndHL => .res 0 .hlInd
  | .res0_A => .res 0 .a
  | .res1_B => .res 1 .b
  | .res1_C => .res 1 .c
  | .res1_D => .res 1 .d
  | .res1_E => .res 1 .e
  | .res1_H => .res 1 .h
  | .res1_L => .res 1 .l
  | .res1_IndHL => .res 1 .hlInd
  | .res1_A => .res 1 .a
  | .res2_B => .res 2 .b
  | .res2_C => .res 2 .c
  | .res2_D => .res 2 .d
  | .res2_E => .res 2 .e
  | .res2_H => .res 2 .h
  | .res2_L => .res 2 .l
  | .res2_IndHL => .res 2 .hlInd
  | .res2_A => .res 2 .a
  | .res3_B => .res 3 .b
  | .res3_C => .res 3 .c
  | .res3_D => .res 3 .d
  | .res3_E => .res 3 .e
  | .res3_H => .res 3 .h
  | .res3_L => .res 3 .l
  | .res3_IndHL => .res 3 .hlInd
  | .res3_A => .res 3 .a
  | .res4_B => .res 4 .b
  | .res4_C => .res 4 .c
  | .res4_D => .res 4 .d
  | .res4_E => .res 4 .e
  | .res4_H => .res 4 .h
  | .res4_L => .res 4 .l
  | .res4_IndHL => .res 4 .hlInd
  | .res4_A => .res 4 .a
  | .res5_B => .res 5 .b
  | .res5_C => .res 5 .c
  | .res5_D => .res 5 .d
  | .res5_E => .res 5 .e
  | .res5_H => .res 5 .h
  | .res5_L => .res 5 .l
  | .res5_IndHL => .res 5 .hlInd
  | .res5_A => .res 5 .a
  | .res6_B => .res 6 .b
  | .res6_C => .res 6 .c
  | .res6_D => .res 6 .d
  | .res6_E => .res 6 .e
  | .res6_H => .res 6 .h
  | .res6_L => .res 6 .l
  | .res6_IndHL => .res 6 .hlInd
  | .res6_A => .res 6 .a
  | .res7_B => .res 7 .b
  | .res7_C => .res 7 .c
  | .res7_D => .res 7 .d
  | .res7_E => .res 7 .e
  | .res7_H => .res 7 .h
  | .res7_L => .res 7 .l
  | .res7_IndHL => .res 7 .hlInd
  | .res7_A => .res 7 .a
  | .set0_B => .set 0 .b
  | .set0_C => .set 0 .c
  | .set0_D => .set 0 .d
  | .set0_E => .set 0 .e
  | .set0_H => .set 0 .h
  | .set0_L => .set 0 .l
  | .set0_IndHL => .set 0 .hlInd
  | .set0_A => .set 0 .a
  | .set1_B => .set 1 .b
  | .set1_C => .set 1 .c
  | .set1_D => .set 1 .d
  | .set1_E => .set 1 .e
  | .set1_H => .set 1 .h
  | .set1_L => .set 1 .l
  | .set1_IndHL => .set 1 .hlInd
  | .set1_A => .set 1 .a
  | .set2_B => .set 2 .b
  | .set2_C => .set 2 .c
  | .set2_D => .set 2 .d
  | .set2_E => .set 2 .e
  | .set2_H => .set 2 .h
  | .set2_L => .set 2 .l
  | .set2_IndHL => .set 2 .hlInd
  | .set2_A => .set 2 .a
  | .set3_B => .set 3 .b
  | .set3_C => .set 3 .c
  | .set3_D => .set 3 .d
  | .set3_E => .set 3 .e
  | .set3_H => .set 3 .h
  | .set3_L => .set 3 .l
  | .set3_IndHL => .set 3 .hlInd
  | .set3_A => .set 3 .a
  | .set4_B => .set 4 .b
  | .set4_C => .set 4 .c
  | .set4_D => .set 4 .d
  | .set4_E => .set 4 .e
  | .set4_H => .set 4 .h
  | .set4_L => .set 4 .l
  | .set4_IndHL => .set 4 .hlInd
  | .set4_A => .set 4 .a
  | .set5_B => .set 5 .b
  | .set5_C => .set 5 .c
  | .set5_D => .set 5 .d
  | .set5_E => .set 5 .e
  | .set5_H => .set 5 .h
  | .set5_L => .set 5 .l
  | .set5_IndHL => .set 5 .hlInd
  | .set5_A => .set 5 .a
  | .set6_B => .set 6 .b
  | .set6_C => .set 6 .c
  | .set6_D => .set 6 .d
  | .set6_E => .set 6 .e
  | .set6_H => .set 6 .h
  | .set6_L => .set 6 .l
  | .set6_IndHL => .set 6 .hlInd
  | .set6_A => .set 6 .a
  | .set7_B => .set 7 .b
  | .set7_C => .set 7 .c
  | .set7_D => .set 7 .d
  | .set7_E => .set 7 .e
  | .set7_H => .set 7 .h
  | .set7_L => .set 7 .l
  | .set7_IndHL => .set 7 .hlInd
  | .set7_A => .set 7 .a

/-- LD r[y],r[z] as a row of the table; the code of LD (HL),(HL) is HALT, not a load (30_encoding.md R123). -/
def loadRankRow : Rank → Rank → Option Instr
  | .b, .b => some .ldB_B
  | .b, .c => some .ldB_C
  | .b, .d => some .ldB_D
  | .b, .e => some .ldB_E
  | .b, .h => some .ldB_H
  | .b, .l => some .ldB_L
  | .b, .hlInd => some .ldB_IndHL
  | .b, .a => some .ldB_A
  | .c, .b => some .ldC_B
  | .c, .c => some .ldC_C
  | .c, .d => some .ldC_D
  | .c, .e => some .ldC_E
  | .c, .h => some .ldC_H
  | .c, .l => some .ldC_L
  | .c, .hlInd => some .ldC_IndHL
  | .c, .a => some .ldC_A
  | .d, .b => some .ldD_B
  | .d, .c => some .ldD_C
  | .d, .d => some .ldD_D
  | .d, .e => some .ldD_E
  | .d, .h => some .ldD_H
  | .d, .l => some .ldD_L
  | .d, .hlInd => some .ldD_IndHL
  | .d, .a => some .ldD_A
  | .e, .b => some .ldE_B
  | .e, .c => some .ldE_C
  | .e, .d => some .ldE_D
  | .e, .e => some .ldE_E
  | .e, .h => some .ldE_H
  | .e, .l => some .ldE_L
  | .e, .hlInd => some .ldE_IndHL
  | .e, .a => some .ldE_A
  | .h, .b => some .ldH_B
  | .h, .c => some .ldH_C
  | .h, .d => some .ldH_D
  | .h, .e => some .ldH_E
  | .h, .h => some .ldH_H
  | .h, .l => some .ldH_L
  | .h, .hlInd => some .ldH_IndHL
  | .h, .a => some .ldH_A
  | .l, .b => some .ldL_B
  | .l, .c => some .ldL_C
  | .l, .d => some .ldL_D
  | .l, .e => some .ldL_E
  | .l, .h => some .ldL_H
  | .l, .l => some .ldL_L
  | .l, .hlInd => some .ldL_IndHL
  | .l, .a => some .ldL_A
  | .hlInd, .b => some .ldIndHL_B
  | .hlInd, .c => some .ldIndHL_C
  | .hlInd, .d => some .ldIndHL_D
  | .hlInd, .e => some .ldIndHL_E
  | .hlInd, .h => some .ldIndHL_H
  | .hlInd, .l => some .ldIndHL_L
  | .hlInd, .a => some .ldIndHL_A
  | .a, .b => some .ldA_B
  | .a, .c => some .ldA_C
  | .a, .d => some .ldA_D
  | .a, .e => some .ldA_E
  | .a, .h => some .ldA_H
  | .a, .l => some .ldA_L
  | .a, .hlInd => some .ldA_IndHL
  | .a, .a => some .ldA_A
  | .hlInd, .hlInd => none

/-- The row of an ALU operation and its source rank (30_encoding.md R124). -/
def aluRow : AluOp → Rank → Instr
  | .add, .b => .addA_B
  | .add, .c => .addA_C
  | .add, .d => .addA_D
  | .add, .e => .addA_E
  | .add, .h => .addA_H
  | .add, .l => .addA_L
  | .add, .hlInd => .addA_IndHL
  | .add, .a => .addA_A
  | .adc, .b => .adcA_B
  | .adc, .c => .adcA_C
  | .adc, .d => .adcA_D
  | .adc, .e => .adcA_E
  | .adc, .h => .adcA_H
  | .adc, .l => .adcA_L
  | .adc, .hlInd => .adcA_IndHL
  | .adc, .a => .adcA_A
  | .sub, .b => .sub_B
  | .sub, .c => .sub_C
  | .sub, .d => .sub_D
  | .sub, .e => .sub_E
  | .sub, .h => .sub_H
  | .sub, .l => .sub_L
  | .sub, .hlInd => .sub_IndHL
  | .sub, .a => .sub_A
  | .sbc, .b => .sbcA_B
  | .sbc, .c => .sbcA_C
  | .sbc, .d => .sbcA_D
  | .sbc, .e => .sbcA_E
  | .sbc, .h => .sbcA_H
  | .sbc, .l => .sbcA_L
  | .sbc, .hlInd => .sbcA_IndHL
  | .sbc, .a => .sbcA_A
  | .and, .b => .and_B
  | .and, .c => .and_C
  | .and, .d => .and_D
  | .and, .e => .and_E
  | .and, .h => .and_H
  | .and, .l => .and_L
  | .and, .hlInd => .and_IndHL
  | .and, .a => .and_A
  | .xor, .b => .xor_B
  | .xor, .c => .xor_C
  | .xor, .d => .xor_D
  | .xor, .e => .xor_E
  | .xor, .h => .xor_H
  | .xor, .l => .xor_L
  | .xor, .hlInd => .xor_IndHL
  | .xor, .a => .xor_A
  | .or, .b => .or_B
  | .or, .c => .or_C
  | .or, .d => .or_D
  | .or, .e => .or_E
  | .or, .h => .or_H
  | .or, .l => .or_L
  | .or, .hlInd => .or_IndHL
  | .or, .a => .or_A
  | .cp, .b => .cp_B
  | .cp, .c => .cp_C
  | .cp, .d => .cp_D
  | .cp, .e => .cp_E
  | .cp, .h => .cp_H
  | .cp, .l => .cp_L
  | .cp, .hlInd => .cp_IndHL
  | .cp, .a => .cp_A

/-- The row of BIT n,r (30_encoding.md R129). -/
def bitRow : Fin 8 → Rank → Instr
  | 0, .b => .bit0_B
  | 0, .c => .bit0_C
  | 0, .d => .bit0_D
  | 0, .e => .bit0_E
  | 0, .h => .bit0_H
  | 0, .l => .bit0_L
  | 0, .hlInd => .bit0_IndHL
  | 0, .a => .bit0_A
  | 1, .b => .bit1_B
  | 1, .c => .bit1_C
  | 1, .d => .bit1_D
  | 1, .e => .bit1_E
  | 1, .h => .bit1_H
  | 1, .l => .bit1_L
  | 1, .hlInd => .bit1_IndHL
  | 1, .a => .bit1_A
  | 2, .b => .bit2_B
  | 2, .c => .bit2_C
  | 2, .d => .bit2_D
  | 2, .e => .bit2_E
  | 2, .h => .bit2_H
  | 2, .l => .bit2_L
  | 2, .hlInd => .bit2_IndHL
  | 2, .a => .bit2_A
  | 3, .b => .bit3_B
  | 3, .c => .bit3_C
  | 3, .d => .bit3_D
  | 3, .e => .bit3_E
  | 3, .h => .bit3_H
  | 3, .l => .bit3_L
  | 3, .hlInd => .bit3_IndHL
  | 3, .a => .bit3_A
  | 4, .b => .bit4_B
  | 4, .c => .bit4_C
  | 4, .d => .bit4_D
  | 4, .e => .bit4_E
  | 4, .h => .bit4_H
  | 4, .l => .bit4_L
  | 4, .hlInd => .bit4_IndHL
  | 4, .a => .bit4_A
  | 5, .b => .bit5_B
  | 5, .c => .bit5_C
  | 5, .d => .bit5_D
  | 5, .e => .bit5_E
  | 5, .h => .bit5_H
  | 5, .l => .bit5_L
  | 5, .hlInd => .bit5_IndHL
  | 5, .a => .bit5_A
  | 6, .b => .bit6_B
  | 6, .c => .bit6_C
  | 6, .d => .bit6_D
  | 6, .e => .bit6_E
  | 6, .h => .bit6_H
  | 6, .l => .bit6_L
  | 6, .hlInd => .bit6_IndHL
  | 6, .a => .bit6_A
  | 7, .b => .bit7_B
  | 7, .c => .bit7_C
  | 7, .d => .bit7_D
  | 7, .e => .bit7_E
  | 7, .h => .bit7_H
  | 7, .l => .bit7_L
  | 7, .hlInd => .bit7_IndHL
  | 7, .a => .bit7_A

/-- The row of RES n,r (30_encoding.md R129). -/
def resRow : Fin 8 → Rank → Instr
  | 0, .b => .res0_B
  | 0, .c => .res0_C
  | 0, .d => .res0_D
  | 0, .e => .res0_E
  | 0, .h => .res0_H
  | 0, .l => .res0_L
  | 0, .hlInd => .res0_IndHL
  | 0, .a => .res0_A
  | 1, .b => .res1_B
  | 1, .c => .res1_C
  | 1, .d => .res1_D
  | 1, .e => .res1_E
  | 1, .h => .res1_H
  | 1, .l => .res1_L
  | 1, .hlInd => .res1_IndHL
  | 1, .a => .res1_A
  | 2, .b => .res2_B
  | 2, .c => .res2_C
  | 2, .d => .res2_D
  | 2, .e => .res2_E
  | 2, .h => .res2_H
  | 2, .l => .res2_L
  | 2, .hlInd => .res2_IndHL
  | 2, .a => .res2_A
  | 3, .b => .res3_B
  | 3, .c => .res3_C
  | 3, .d => .res3_D
  | 3, .e => .res3_E
  | 3, .h => .res3_H
  | 3, .l => .res3_L
  | 3, .hlInd => .res3_IndHL
  | 3, .a => .res3_A
  | 4, .b => .res4_B
  | 4, .c => .res4_C
  | 4, .d => .res4_D
  | 4, .e => .res4_E
  | 4, .h => .res4_H
  | 4, .l => .res4_L
  | 4, .hlInd => .res4_IndHL
  | 4, .a => .res4_A
  | 5, .b => .res5_B
  | 5, .c => .res5_C
  | 5, .d => .res5_D
  | 5, .e => .res5_E
  | 5, .h => .res5_H
  | 5, .l => .res5_L
  | 5, .hlInd => .res5_IndHL
  | 5, .a => .res5_A
  | 6, .b => .res6_B
  | 6, .c => .res6_C
  | 6, .d => .res6_D
  | 6, .e => .res6_E
  | 6, .h => .res6_H
  | 6, .l => .res6_L
  | 6, .hlInd => .res6_IndHL
  | 6, .a => .res6_A
  | 7, .b => .res7_B
  | 7, .c => .res7_C
  | 7, .d => .res7_D
  | 7, .e => .res7_E
  | 7, .h => .res7_H
  | 7, .l => .res7_L
  | 7, .hlInd => .res7_IndHL
  | 7, .a => .res7_A

/-- The row of SET n,r (30_encoding.md R129). -/
def setRow : Fin 8 → Rank → Instr
  | 0, .b => .set0_B
  | 0, .c => .set0_C
  | 0, .d => .set0_D
  | 0, .e => .set0_E
  | 0, .h => .set0_H
  | 0, .l => .set0_L
  | 0, .hlInd => .set0_IndHL
  | 0, .a => .set0_A
  | 1, .b => .set1_B
  | 1, .c => .set1_C
  | 1, .d => .set1_D
  | 1, .e => .set1_E
  | 1, .h => .set1_H
  | 1, .l => .set1_L
  | 1, .hlInd => .set1_IndHL
  | 1, .a => .set1_A
  | 2, .b => .set2_B
  | 2, .c => .set2_C
  | 2, .d => .set2_D
  | 2, .e => .set2_E
  | 2, .h => .set2_H
  | 2, .l => .set2_L
  | 2, .hlInd => .set2_IndHL
  | 2, .a => .set2_A
  | 3, .b => .set3_B
  | 3, .c => .set3_C
  | 3, .d => .set3_D
  | 3, .e => .set3_E
  | 3, .h => .set3_H
  | 3, .l => .set3_L
  | 3, .hlInd => .set3_IndHL
  | 3, .a => .set3_A
  | 4, .b => .set4_B
  | 4, .c => .set4_C
  | 4, .d => .set4_D
  | 4, .e => .set4_E
  | 4, .h => .set4_H
  | 4, .l => .set4_L
  | 4, .hlInd => .set4_IndHL
  | 4, .a => .set4_A
  | 5, .b => .set5_B
  | 5, .c => .set5_C
  | 5, .d => .set5_D
  | 5, .e => .set5_E
  | 5, .h => .set5_H
  | 5, .l => .set5_L
  | 5, .hlInd => .set5_IndHL
  | 5, .a => .set5_A
  | 6, .b => .set6_B
  | 6, .c => .set6_C
  | 6, .d => .set6_D
  | 6, .e => .set6_E
  | 6, .h => .set6_H
  | 6, .l => .set6_L
  | 6, .hlInd => .set6_IndHL
  | 6, .a => .set6_A
  | 7, .b => .set7_B
  | 7, .c => .set7_C
  | 7, .d => .set7_D
  | 7, .e => .set7_E
  | 7, .h => .set7_H
  | 7, .l => .set7_L
  | 7, .hlInd => .set7_IndHL
  | 7, .a => .set7_A

/-- The opcode-table row of a format and its fields; none for the one combination no row has, LD (HL),(HL). -/
def Form.instr? : Form → Option Instr
  | .nop => some .nop
  | .halt => some .halt
  | .ld dst src => loadRankRow dst src
  | .ldImm dst d8 =>
    match dst with
    | .b => some (.ldB_D8 d8)
    | .c => some (.ldC_D8 d8)
    | .d => some (.ldD_D8 d8)
    | .e => some (.ldE_D8 d8)
    | .h => some (.ldH_D8 d8)
    | .l => some (.ldL_D8 d8)
    | .hlInd => some (.ldIndHL_D8 d8)
    | .a => some (.ldA_D8 d8)
  | .storeInd m =>
    match m with
    | .bc => some .ldIndBC_A
    | .de => some .ldIndDE_A
    | .hlInc => some .ldIndHLInc_A
    | .hlDec => some .ldIndHLDec_A
  | .loadInd m =>
    match m with
    | .bc => some .ldA_IndBC
    | .de => some .ldA_IndDE
    | .hlInc => some .ldA_IndHLInc
    | .hlDec => some .ldA_IndHLDec
  | .storeHigh a8 => some (.ldhIndA8_A a8)
  | .loadHigh a8 => some (.ldhA_IndA8 a8)
  | .storeHighC => some .ldIndC_A
  | .loadHighC => some .ldA_IndC
  | .alu op src => some (aluRow op src)
  | .ldPair dst d16 =>
    match dst with
    | .bc => some (.ldBC_D16 d16)
    | .de => some (.ldDE_D16 d16)
    | .hl => some (.ldHL_D16 d16)
    | .sp => some (.ldSP_D16 d16)
  | .push q =>
    match q with
    | .bc => some .pushBC
    | .de => some .pushDE
    | .hl => some .pushHL
    | .af => some .pushAF
  | .pop q =>
    match q with
    | .bc => some .popBC
    | .de => some .popDE
    | .hl => some .popHL
    | .af => some .popAF
  | .jr e8 => some (.jr e8)
  | .jrCond cc e8 =>
    match cc with
    | .nz => some (.jrNZ e8)
    | .z => some (.jrZ e8)
    | .nc => some (.jrNC e8)
    | .c => some (.jrC e8)
  | .call a16 => some (.call a16)
  | .ret => some .ret
  | .bit n r => some (bitRow n r)
  | .res n r => some (resRow n r)
  | .set n r => some (setRow n r)

/-! ## Decoding -/

/-- Why bytes are no instruction: too few of them, or an opcode outside the tables
(the bytes recorded with the fault `UnknownOpcode`, 30_encoding.md R135, R136). -/
inductive DecodeError where
  | truncated
  | unknownOpcode (bytes : List Byte)
  deriving DecidableEq, Repr

/-- What a decoder answers: a value and the bytes after it, or why there is none. -/
abbrev Decoded (α : Type) := Except DecodeError (α × List Byte)

/-- An operand byte d8, e8 or a8, the byte after the opcode (30_encoding.md R133). -/
def withByte (k : Byte → Form) : List Byte → Decoded Form
  | [] => .error .truncated
  | v :: rest => .ok (k v, rest)

/-- An operand d16 or a16: the low byte first, then the high byte (30_encoding.md R133). -/
def withWord (k : Addr → Form) : List Byte → Decoded Form
  | lo :: hi :: rest => .ok (k (wordOfBytes hi lo), rest)
  | _ => .error .truncated

/-- The quarter 0x00–0x3F: formats I8, I16, IND, REL and NOP (30_encoding.md R125–R127, R142, R134). -/
def decodeQuarter0 (op : Byte) (rest : List Byte) : Decoded Form :=
  let y := op.extractLsb' 3 3
  let pp := op.extractLsb' 4 2
  match (op.extractLsb' 0 4).toNat with
  | 0x1 => withWord (.ldPair (Dest16.ofCode pp)) rest
  | 0x2 => .ok (.storeInd (IndMode.ofCode pp), rest)
  | 0xA => .ok (.loadInd (IndMode.ofCode pp), rest)
  | 0x6 => withByte (.ldImm (Rank.ofCode y)) rest
  | 0xE => withByte (.ldImm (Rank.ofCode y)) rest
  | 0x0 =>
    match op.toNat with
    | 0x00 => .ok (.nop, rest)
    | 0x20 => withByte (.jrCond (Cond.ofCode (op.extractLsb' 3 2))) rest
    | 0x30 => withByte (.jrCond (Cond.ofCode (op.extractLsb' 3 2))) rest
    | _ => .error (.unknownOpcode [op])
  | 0x8 =>
    match op.toNat with
    | 0x18 => withByte .jr rest
    | 0x28 => withByte (.jrCond (Cond.ofCode (op.extractLsb' 3 2))) rest
    | 0x38 => withByte (.jrCond (Cond.ofCode (op.extractLsb' 3 2))) rest
    | _ => .error (.unknownOpcode [op])
  | _ => .error (.unknownOpcode [op])

/-- The quarter 0xC0–0xFF but the prefix: formats STK, A16, A8 and IMP (30_encoding.md R128, R142, R134). -/
def decodeQuarter3 (op : Byte) (rest : List Byte) : Decoded Form :=
  let qq := op.extractLsb' 4 2
  match (op.extractLsb' 0 4).toNat with
  | 0x1 => .ok (.pop (Pair.ofCode qq), rest)
  | 0x5 => .ok (.push (Pair.ofCode qq), rest)
  | _ =>
    match op.toNat with
    | 0xC9 => .ok (.ret, rest)
    | 0xCD => withWord .call rest
    | 0xE0 => withByte .storeHigh rest
    | 0xE2 => .ok (.storeHighC, rest)
    | 0xF0 => withByte .loadHigh rest
    | 0xF2 => .ok (.loadHighC, rest)
    | _ => .error (.unknownOpcode [op])

/-- The extended table behind the prefix 0xCB (30_encoding.md R129, R136; 44_extended_cb.md R240). -/
def decodeExtended : List Byte → Decoded Form
  | [] => .error .truncated
  | op2 :: rest =>
    let n : Fin 8 := (op2.extractLsb' 3 3).toFin
    let r := Rank.ofCode (op2.extractLsb' 0 3)
    match (op2.extractLsb' 6 2).toNat with
    | 0 => .error (.unknownOpcode [0xCB, op2])
    | 1 => .ok (.bit n r, rest)
    | 2 => .ok (.res n r, rest)
    | _ => .ok (.set n r, rest)

/-- The primary table for an admitted opcode, in the order of 30_encoding.md R122. -/
def decodePrimary (op : Byte) (rest : List Byte) : Decoded Form :=
  let y := op.extractLsb' 3 3
  let z := op.extractLsb' 0 3
  if op = 0x76 then .ok (.halt, rest)
  else
    match (op.extractLsb' 6 2).toNat with
    | 1 => .ok (.ld (Rank.ofCode y) (Rank.ofCode z), rest)
    | 2 => .ok (.alu (AluOp.ofCode y) (Rank.ofCode z), rest)
    | 0 => decodeQuarter0 op rest
    | _ => decodeQuarter3 op rest

/-- Decoding to a format: the prefix, then admission, then the primary table (30_encoding.md R122, R141). -/
def decodeForm (p : Params) : List Byte → Decoded Form
  | [] => .error .truncated
  | op :: rest =>
    if op = 0xCB then decodeExtended rest
    else if p.admits op then decodePrimary op rest
    else .error (.unknownOpcode [op])

/-- Decoding: the instruction at the head of a byte sequence and the bytes after it (30_encoding.md R120, R122). -/
def decode (p : Params) (bytes : List Byte) : Decoded Instr :=
  match decodeForm p bytes with
  | .error e => .error e
  | .ok (f, rest) =>
    match f.instr? with
    | some i => .ok (i, rest)
    | none => .error (.unknownOpcode (bytes.take 1))

/-! ## Encoding -/

/-- The two bytes of a 16-bit operand, low byte first (30_encoding.md R133). -/
def wordBytes (v : Addr) : List Byte := [lowByte v, highByte v]

/-- A bit index as the field `bbb` (30_encoding.md R129). -/
def bitField (n : Fin 8) : BitVec 3 := BitVec.ofFin n

/-- The bytes of a format, each opcode byte written as its bit fields (30_encoding.md R123–R129, R142). -/
def Form.encode : Form → List Byte
  | .nop => [0b00000000]
  | .halt => [0b01110110]
  | .ld dst src => [0b01#2 ++ dst.code ++ src.code]
  | .alu op src => [0b10#2 ++ op.code ++ src.code]
  | .ldImm dst d8 => [0b00#2 ++ dst.code ++ 0b110#3, d8]
  | .ldPair dst d16 => (0b00#2 ++ dst.code ++ 0b0001#4) :: wordBytes d16
  | .storeInd m => [0b00#2 ++ m.code ++ 0b0010#4]
  | .loadInd m => [0b00#2 ++ m.code ++ 0b1010#4]
  | .push q => [0b11#2 ++ q.code ++ 0b0101#4]
  | .pop q => [0b11#2 ++ q.code ++ 0b0001#4]
  | .jr e8 => [0b00011000, e8]
  | .jrCond cc e8 => [0b001#3 ++ cc.code ++ 0b000#3, e8]
  | .call a16 => 0b11001101 :: wordBytes a16
  | .ret => [0b11001001]
  | .storeHigh a8 => [0b11100000, a8]
  | .loadHigh a8 => [0b11110000, a8]
  | .storeHighC => [0b11100010]
  | .loadHighC => [0b11110010]
  | .bit n r => [0b11001011, 0b01#2 ++ bitField n ++ r.code]
  | .res n r => [0b11001011, 0b10#2 ++ bitField n ++ r.code]
  | .set n r => [0b11001011, 0b11#2 ++ bitField n ++ r.code]

/-- The bytes of an instruction. -/
def encode (i : Instr) : List Byte := i.form.encode

/-- The first byte of an instruction, the opcode that `ADMITTED_PRIMARY` speaks of. -/
def Instr.opcode (i : Instr) : Byte := (encode i).headD 0

/-- The length of an instruction, from its first byte alone (30_encoding.md R138). -/
def lengthOfOpcode (op : Byte) : Nat :=
  if op.toNat ∈ [0x01, 0x11, 0x21, 0x31, 0xCD] then 3
  else if op.toNat ∈ [0x06, 0x0E, 0x16, 0x1E, 0x26, 0x2E, 0x36, 0x3E, 0x18, 0x20, 0x28, 0x30, 0x38, 0xE0, 0xF0, 0xCB] then 2
  else 1

/-! ## The opcode table's words -/

/-- The bytes, lowest address first, of an instruction whose bits spec/opcode_table.json numbers as `w`:
the table writes an extended row as the number 0xCBxx, prefix in bits 15..8, and every other row from its first byte up.
Bits from `nbits` on are 0, up to the longest instruction. Log entry 9. -/
def tableBytes (nbits w : Nat) : List Byte :=
  let w := w % 2 ^ nbits
  if nbits = 16 ∧ w / 256 = 0xCB ∧ 0x40 ≤ w % 256 then [0xCB, BitVec.ofNat 8 w, 0x00]
  else [BitVec.ofNat 8 w, BitVec.ofNat 8 (w / 256), BitVec.ofNat 8 (w / 65536)]

/-- The instruction the decoder reads from a word of the opcode table, under the default parameters. -/
def decodeTableWord (nbits w : Nat) : Option Instr :=
  match decode Config.params (tableBytes nbits w) with
  | .ok (i, _) => some i
  | .error _ => none

end Sys2Proof
end

