-- ==== Sys2Proof/Machine/Memory.lean ====
section
/-! DEFINITION. Byte storage as plain data: a list of address and byte pairs in one canonical form, with its read and its write, and the same for a cartridge image. -/

namespace Sys2Proof.Machine

/-- A byte store: addresses strictly rising, no entry equal to what an unlisted address reads as. -/
abbrev Memory := List Host.Cell

/-- What an unlisted address reads as: the reset contents of the flat array and of cartridge RAM (10_state.md R50, R51). -/
def unlisted : Byte := 0x00

/-- The byte at an address. -/
def Memory.read : Memory → Nat → Byte
  | [], _ => unlisted
  | (k, v) :: m, a => if a = k then v else Memory.read m a

/-- A cell in front of a memory, left out where it holds what an unlisted address reads as. -/
def Memory.consCell (a : Nat) (v : Byte) (m : Memory) : Memory :=
  if v = unlisted then m else (a, v) :: m

/-- The memory with the byte `v` at address `a`, in canonical form again. -/
def Memory.write : Memory → Nat → Byte → Memory
  | [], a, v => Memory.consCell a v []
  | (k, w) :: m, a, v =>
    if a < k then Memory.consCell a v ((k, w) :: m)
    else if a = k then Memory.consCell a v m
    else (k, w) :: Memory.write m a v

/-- The canonical form, from a lower bound of the addresses on. -/
def Memory.wfFrom : Nat → Memory → Bool
  | _, [] => true
  | lo, (k, v) :: m => decide (lo ≤ k) && v != unlisted && Memory.wfFrom (k + 1) m

/-- The canonical form: addresses strictly rising, no unlisted value listed. -/
def Memory.wf (m : Memory) : Bool := Memory.wfFrom 0 m

/-- Every listed address passes a test. -/
def Memory.keysAll (ok : Nat → Bool) (m : Memory) : Bool := m.all fun c => ok c.1

end Sys2Proof.Machine

namespace Sys2Proof

/-- The byte at an index of an image, none beyond its end. -/
def Image.byte? (img : Image) (i : Nat) : Option Byte :=
  if i < img.size then some (Machine.Memory.read img.cells i) else none

/-- The first `n` bytes of an image. -/
def Image.firstBytes (img : Image) (n : Nat) : Image :=
  { size := min img.size n, cells := img.cells.filter fun c => decide (c.1 < n) }

/-- An image from its bytes in order. -/
def Image.ofBytes (bytes : List Byte) : Image :=
  { size := bytes.length
    cells := (bytes.zipIdx.filter fun x => x.1 != Machine.unlisted).map fun x => (x.2, x.1) }

/-- An image is in canonical form and lists no cell beyond its end. -/
def Image.wf (img : Image) : Bool :=
  Machine.Memory.wf img.cells && Machine.Memory.keysAll (fun k => decide (k < img.size)) img.cells

end Sys2Proof
end

