-- ==== Sys2Proof/Machine/State.lean ====
section
/-! DEFINITION. The state of a Console (10_state.md) as plain data, the faults and refusals, and the state after reset. -/

namespace Sys2Proof.Machine

/-- The register file: eight 8-bit registers, SP and PC (10_state.md R20). Pairs have no storage of their own (R21). -/
structure Regs where
  a  : Byte
  f  : Byte
  b  : Byte
  c  : Byte
  d  : Byte
  e  : Byte
  h  : Byte
  l  : Byte
  sp : Addr
  pc : Addr
  deriving DecidableEq, Repr

/-- The banking mode of a SwitchableBank controller (10_state.md R41). -/
inductive BankingMode where
  | romBanking
  | ramBanking
  deriving DecidableEq, Repr

/-- The state of a SwitchableBank controller (10_state.md R38). -/
structure SwitchableBank where
  rom       : Image
  ram       : Memory
  romBank   : BitVec 7
  ramBank   : BitVec 2
  mode      : BankingMode
  ramEnable : Bool
  deriving DecidableEq, Repr

/-- The bank controller, a closed tagged variant (10_state.md R36, R37, R38). -/
inductive Cart where
  | noController (rom : Image)
  | switchableBank (bank : SwitchableBank)
  deriving DecidableEq, Repr

/-- The fault kinds with the info each records (60_exceptions.md R261).
A run-time fault stands in `Status.faulted` of a NEXT state (log entry 1, safe): no step answers `Outcome.fault`.
A load-time fault is the `Outcome.fault` of `construct`, which then gives no state (R267; log entry 2, safe). -/
inductive Fault where
  /-- Load-time, raised by `construct`: the type byte is neither 0 nor 1 (20_memory.md R97). Safe. -/
  | unsupportedCartridge (type : Byte)
  /-- Load-time, raised by `construct`: the image has no type byte (20_memory.md R96). Safe. -/
  | imageTooShort (length : Nat)
  /-- Run-time, raised by decoding: no admitted instruction (60_exceptions.md R262). Safe. -/
  | unknownOpcode (bytes : List Byte)
  /-- Run-time, raised by a store: NoController, 0x0000–0x7FFF (60_exceptions.md R263). Safe. -/
  | writeToRom (addr : Addr) (value : Byte)
  /-- Run-time, raised by a store: 0xA000–0xBFFF without RAM or with RAM disabled (60_exceptions.md R264). Safe. -/
  | cartRamWriteDisabled (addr : Addr) (value : Byte)
  /-- Run-time, raised by the rank accessor: a rank outside 0..7; no instruction raises it (60_exceptions.md R265). Safe. -/
  | invalidRank (rank : Nat)
  /-- Run-time, raised by a read or a fetch: no image byte stands behind the address (60_exceptions.md R266). Safe. -/
  | imageBounds (addr : Addr) (index : Nat)
  deriving DecidableEq, Repr

/-- Why a step has no meaning. -/
inductive Refusal where
  /-- Raised by an arm of `exec` whose instruction has no meaning yet; no arm does. Safe. -/
  | notModelled (mnemonic : String)
  deriving DecidableEq, Repr

/-- The execution status (10_state.md R44). -/
inductive Status where
  | running
  | halted
  | faulted (fault : Fault)
  deriving DecidableEq, Repr

/-- The whole state of a Console: (regs, flat, cart, status, ticks) of 10_state.md, and the parameters it runs under.
`flat` lists cells of 0x8000–0x9FFF and 0xC000–0xFFFF only (R35).
`params` is the model's own field, configuration that no step changes (log entry 4). -/
structure State where
  regs   : Regs
  flat   : Memory
  cart   : Cart
  status : Status
  ticks  : Nat
  params : Params
  deriving DecidableEq, Repr

/-- The registers after construction (10_state.md R47–R49). -/
def Regs.reset : Regs :=
  { a := 0x00, f := 0x00, b := 0x00, c := 0x00, d := 0x00, e := 0x00, h := 0x00, l := 0x00, sp := 0x0000, pc := 0x0000 }

/-- A NoController keeps the first 32 KiB of the image (10_state.md R37; 20_memory.md R75). -/
def Cart.resetNoController (img : Image) : Cart := .noController (img.firstBytes 0x8000)

/-- A SwitchableBank keeps the whole image and starts with the values of 10_state.md R51. -/
def Cart.resetSwitchableBank (img : Image) : Cart :=
  .switchableBank
    { rom := img, ram := [], romBank := 1, ramBank := 0, mode := .romBanking, ramEnable := false }

/-- The state after construction, around a fresh bank controller (10_state.md R47–R52). -/
def State.fresh (cart : Cart) (p : Params) : State :=
  { regs := Regs.reset, flat := [], cart := cart, status := .running, ticks := 0, params := p }

/-- The machine right after reset: the Console constructed from the image of Config under the default parameters.
The image is a DESIGN CHOICE (log entry 3); everything else is 10_state.md R47–R52. -/
def State.reset : State := State.fresh (Cart.resetNoController Config.image) Config.params

end Sys2Proof.Machine
end

