-- ==== Sys2Proof/Machine/BankController.lean ====
section
/-! DEFINITION. The bank controller's reads and writes (20_memory.md sections 3 and 4), and its selection from the image (section 5). -/

namespace Sys2Proof.Machine

/-- A ROM byte, or the fault `ImageBounds` beyond the image (20_memory.md R76, R82, R83). -/
def romRead (rom : Image) (a : Addr) (index : Nat) : Except Fault Byte :=
  match rom.byte? index with
  | some v => .ok v
  | none => .error (.imageBounds a index)

/-- The image index read at 0x4000–0x7FFF: `a + (romBank - 1) * 0x4000` (20_memory.md R83). -/
def SwitchableBank.romIndex (m : SwitchableBank) (a : Addr) : Nat :=
  (a.toNat - 0x4000) + m.romBank.toNat * 0x4000

/-- The RAM index of 0xA000–0xBFFF: `a - 0xA000 + ramBank * 0x2000` (20_memory.md R84, R89). -/
def SwitchableBank.ramIndex (m : SwitchableBank) (a : Addr) : Nat :=
  (a.toNat - 0xA000) + m.ramBank.toNat * 0x2000

/-- A read of a cartridge address (20_memory.md R76, R77, R82–R84). -/
def cartRead (c : Cart) (a : Addr) : Except Fault Byte :=
  match c with
  | .noController rom =>
    if a.toNat < 0x8000 then romRead rom a a.toNat else .error (.imageBounds a a.toNat)
  | .switchableBank m =>
    if a.toNat < 0x4000 then romRead m.rom a a.toNat
    else if a.toNat < 0x8000 then romRead m.rom a (m.romIndex a)
    else .ok (m.ram.read (m.ramIndex a))

/-- 0x0000–0x1FFF: RAM write enable (20_memory.md R85). -/
def SwitchableBank.writeRamEnable (v : Byte) (m : SwitchableBank) : SwitchableBank :=
  { m with ramEnable := v &&& 0x0F == 0x0A }

/-- 0x2000–0x3FFF: the low five bits of the ROM bank, 0 taken as 1 (20_memory.md R86). -/
def SwitchableBank.writeRomBankLow (v : Byte) (m : SwitchableBank) : SwitchableBank :=
  let lo5 : BitVec 5 := v.extractLsb' 0 5
  let lo5 := if lo5 = 0 then 1 else lo5
  { m with romBank := m.romBank.extractLsb' 5 2 ++ lo5 }

/-- 0x4000–0x5FFF: the RAM bank or the ROM bank's high bits, as the mode selects (20_memory.md R87). -/
def SwitchableBank.writeBankHigh (v : Byte) (m : SwitchableBank) : SwitchableBank :=
  match m.mode with
  | .ramBanking => { m with ramBank := v.extractLsb' 0 2 }
  | .romBanking => { m with romBank := v.extractLsb' 0 2 ++ m.romBank.extractLsb' 0 5 }

/-- 0x6000–0x7FFF: the banking mode (20_memory.md R88, R91). -/
def SwitchableBank.writeMode (v : Byte) (m : SwitchableBank) : SwitchableBank :=
  { m with mode := if v &&& 1 = 0 then .romBanking else .ramBanking }

/-- A write to the control range 0x0000–0x7FFF (20_memory.md R85–R88, R92). -/
def SwitchableBank.writeControl (a : Addr) (v : Byte) (m : SwitchableBank) : SwitchableBank :=
  if a.toNat < 0x2000 then m.writeRamEnable v
  else if a.toNat < 0x4000 then m.writeRomBankLow v
  else if a.toNat < 0x6000 then m.writeBankHigh v
  else m.writeMode v

/-- A write to a cartridge address (20_memory.md R78, R79, R85–R90). -/
def cartWrite (policy : RamDisabledWrite) (c : Cart) (a : Addr) (v : Byte) : Except Fault Cart :=
  match c with
  | .noController _ =>
    if a.toNat < 0x8000 then .error (.writeToRom a v) else .error (.cartRamWriteDisabled a v)
  | .switchableBank m =>
    if a.toNat < 0x8000 then .ok (.switchableBank (m.writeControl a v))
    else if m.ramEnable then
      .ok (.switchableBank { m with ram := m.ram.write (m.ramIndex a) v })
    else
      match policy with
      | .fault => .error (.cartRamWriteDisabled a v)
      | .ignore => .ok c

/-- Construction from an image, the only reset (70_reset_and_hazards.md R290; 20_memory.md R95–R97):
a Console in its reset state, or a load-time fault and no state (60_exceptions.md R267). -/
def construct (p : Params) (img : Image) : Host.Outcome State Fault Refusal :=
  match img.byte? 0x147 with
  | none => .fault (.imageTooShort img.size)
  | some t =>
    if t = 0x00 then .next (State.fresh (Cart.resetNoController img) p)
    else if t = 0x01 then .next (State.fresh (Cart.resetSwitchableBank img) p)
    else .fault (.unsupportedCartridge t)

end Sys2Proof.Machine
end

