-- ==== Sys2Proof/Machine/Ops.lean ====
section
/-! DEFINITION. The named operations: results that may fault, taking a fault, the Address Router, byte and word accesses, fetching, the stack and jumping. -/

namespace Sys2Proof.Machine

/-! ## Results and faults -/

/-- What an operation answers: a value and the state after it, or a fault and the state at the failing access,
in which every earlier effect stands and the failing access has none (60_exceptions.md R268). -/
inductive Result (α : Type) where
  | ok (value : α) (s : State)
  | fault (f : Fault) (s : State)
  deriving DecidableEq, Repr

/-- One operation after another; the first fault ends both (60_exceptions.md R269; 00_scope.md R13). -/
def Result.bind {α β : Type} (r : Result α) (k : α → State → Result β) : Result β :=
  match r with
  | .ok v s => k v s
  | .fault f s => .fault f s

/-- Taking a fault: the status records kind and info, and nothing else changes; no vector, no saved
register, no transfer of control (60_exceptions.md R260, R270). There is no return from it (R271). -/
def takeFault (f : Fault) (s : State) : State := { s with status := .faulted f }

/-- The step's outcome: a run-time fault is a next state with status Faulted (00_scope.md R12; log entry 1). -/
def Result.outcome (r : Result Unit) : Host.Outcome State Fault Refusal :=
  match r with
  | .ok _ s => .next s
  | .fault f s => .next (takeFault f s)

/-- The numeric code of a fault kind (60_exceptions.md R261). -/
def Fault.code : Fault → Byte
  | .unsupportedCartridge _ => 0x01
  | .imageTooShort _ => 0x02
  | .unknownOpcode _ => 0x10
  | .writeToRom _ _ => 0x11
  | .cartRamWriteDisabled _ _ => 0x12
  | .invalidRank _ => 0x13
  | .imageBounds _ _ => 0x14

/-- The timing hook, without architectural effect (10_state.md R45). -/
def tick (s : State) : State := { s with ticks := s.ticks + 1 }

/-! ## The Address Router -/

/-- Where an address is routed (20_memory.md R62). -/
inductive Region where
  | cart | echo | wram | flat
  deriving DecidableEq, Repr

/-- The routing of 20_memory.md R62, in its order. -/
def route (a : Addr) : Region :=
  if a.toNat < 0x8000 ∨ (0xA000 ≤ a.toNat ∧ a.toNat ≤ 0xBFFF) then .cart
  else if 0xE000 ≤ a.toNat ∧ a.toNat ≤ 0xFDFF then .echo
  else if 0xC000 ≤ a.toNat ∧ a.toNat ≤ 0xDFFF then .wram
  else .flat

/-- The router's pure read (20_memory.md R62, R66, R67), which is also what the host observes (60_exceptions.md R279). -/
def routerRead (a : Addr) (s : State) : Except Fault Byte :=
  match route a with
  | .cart => cartRead s.cart a
  | .echo | .wram | .flat => .ok (s.flat.read a.toNat)

/-- The router's write; a work-RAM write also lands 0x2000 above, an echo write 0x2000 below (20_memory.md R63–R65, R67). -/
def routerWrite (a : Addr) (v : Byte) (s : State) : Except Fault State :=
  match route a with
  | .cart =>
    match cartWrite s.params.ramDisabledWrite s.cart a v with
    | .ok c => .ok { s with cart := c }
    | .error f => .error f
  | .echo => .ok { s with flat := (s.flat.write a.toNat v).write (a - 0x2000).toNat v }
  | .wram => .ok { s with flat := (s.flat.write a.toNat v).write (a + 0x2000).toNat v }
  | .flat => .ok { s with flat := s.flat.write a.toNat v }

/-! ## Accesses -/

/-- `MemRead(a, 1)`: the hook, then the router (20_memory.md R68). -/
def readByte (a : Addr) (s : State) : Result Byte :=
  match routerRead a s with
  | .ok v => .ok v (tick s)
  | .error f => .fault f (tick s)

/-- `MemWrite(a, 1, v)`: the hook, then the router (20_memory.md R68). -/
def writeByte (a : Addr) (v : Byte) (s : State) : Result Unit :=
  match routerWrite a v (tick s) with
  | .ok s' => .ok () s'
  | .error f => .fault f (tick s)

/-- `MemRead(a, 2)`: the low byte at `a`, then the high byte at `a + 1` modulo 65536 (20_memory.md R69). -/
def readWord (a : Addr) (s : State) : Result Addr :=
  (readByte a s).bind fun lo s =>
  (readByte (a + 1) s).bind fun hi s =>
  .ok (wordOfBytes hi lo) s

/-- `MemWrite(a, 2, v)`: the low byte at `a`, then the high byte at `a + 1` modulo 65536 (20_memory.md R70, R71). -/
def writeWord (a : Addr) (v : Addr) (s : State) : Result Unit :=
  (writeByte a (lowByte v) s).bind fun _ s =>
  writeByte (a + 1) (highByte v) s

/-! ## Registers, fetching, the stack and jumping -/

/-- `PC <- v` (00_scope.md R10). -/
def State.setPc (s : State) (v : Addr) : State := { s with regs := { s.regs with pc := v } }

/-- `SP <- v` (00_scope.md R10). -/
def State.setSp (s : State) (v : Addr) : State := { s with regs := { s.regs with sp := v } }

/-- `fetch8()`: PC advances only after the read returns (00_scope.md R11; 10_state.md R33; 60_exceptions.md R268). -/
def fetch8 (s : State) : Result Byte :=
  (readByte s.regs.pc s).bind fun v s => .ok v (s.setPc (s.regs.pc + 1))

/-- `push(v)` (42_loads16_stack.md R202). -/
def push (v : Addr) (s : State) : Result Unit :=
  let s := s.setSp (s.regs.sp - 2)
  (writeWord s.regs.sp v s).bind fun _ s => .ok () (tick s)

/-- `pop()`: SP moves only after both reads (42_loads16_stack.md R203). -/
def pop (s : State) : Result Addr :=
  (readWord s.regs.sp s).bind fun v s => .ok v (s.setSp (s.regs.sp + 2))

/-- `jump(t)` (43_control.md R217). -/
def jump (t : Addr) (s : State) : State := tick (s.setPc t)

end Sys2Proof.Machine
end

