-- ==== Sys2Proof/Machine/Operands.lean ====
section
/-! DEFINITION. The operand forms: ranks, register pairs, indirect modes, the high-RAM page, displacements and conditions. -/

namespace Sys2Proof.Machine

/-! ## Register pairs -/

/-- `x[BC]` (10_state.md R21). -/
def Regs.bc (g : Regs) : Addr := wordOfBytes g.b g.c

/-- `x[DE]` (10_state.md R21). -/
def Regs.de (g : Regs) : Addr := wordOfBytes g.d g.e

/-- `x[HL]` (10_state.md R21). -/
def Regs.hl (g : Regs) : Addr := wordOfBytes g.h g.l

/-- `x[AF]` (10_state.md R21). -/
def Regs.af (g : Regs) : Addr := wordOfBytes g.a g.f

/-- `x[F] <- v` keeps the low nibble 0 (10_state.md R29). -/
def Regs.setF (g : Regs) (v : Byte) : Regs := { g with f := v &&& 0xF0 }

/-- `x[BC] <- v` (10_state.md R22). -/
def Regs.setBc (g : Regs) (v : Addr) : Regs := { g with b := highByte v, c := lowByte v }

/-- `x[DE] <- v` (10_state.md R22). -/
def Regs.setDe (g : Regs) (v : Addr) : Regs := { g with d := highByte v, e := lowByte v }

/-- `x[HL] <- v` (10_state.md R22). -/
def Regs.setHl (g : Regs) (v : Addr) : Regs := { g with h := highByte v, l := lowByte v }

/-- `x[AF] <- v`, subject to 10_state.md R29 (R22). -/
def Regs.setAf (g : Regs) (v : Addr) : Regs := Regs.setF { g with a := highByte v } (lowByte v)

/-- A pair's 16-bit view (10_state.md R21). -/
def Regs.pair (q : Pair) (g : Regs) : Addr :=
  match q with
  | .bc => g.bc
  | .de => g.de
  | .hl => g.hl
  | .af => g.af

/-- Writing a pair writes its two halves (10_state.md R22, R23). -/
def Regs.setPair (q : Pair) (v : Addr) (g : Regs) : Regs :=
  match q with
  | .bc => g.setBc v
  | .de => g.setDe v
  | .hl => g.setHl v
  | .af => g.setAf v

/-- Writing the destination of a 16-bit immediate load (42_loads16_stack.md R200, R201). -/
def Regs.setDest16 (d : Dest16) (v : Addr) (g : Regs) : Regs :=
  match d with
  | .bc => g.setBc v
  | .de => g.setDe v
  | .hl => g.setHl v
  | .sp => { g with sp := v }

/-- The state with other registers. -/
def State.setRegs (s : State) (g : Regs) : State := { s with regs := g }

/-! ## Ranks -/

/-- `opnd(k)` for a rank: a register, or the memory byte at HL (10_state.md R24–R26). -/
def readOperand (r : Rank) (s : State) : Result Byte :=
  match r with
  | .b => .ok s.regs.b s
  | .c => .ok s.regs.c s
  | .d => .ok s.regs.d s
  | .e => .ok s.regs.e s
  | .h => .ok s.regs.h s
  | .l => .ok s.regs.l s
  | .a => .ok s.regs.a s
  | .hlInd => readByte s.regs.hl s

/-- `opnd(k) <- v` for a rank: a register, or the memory byte at HL (10_state.md R24–R26). -/
def writeOperand (r : Rank) (v : Byte) (s : State) : Result Unit :=
  match r with
  | .b => .ok () (s.setRegs { s.regs with b := v })
  | .c => .ok () (s.setRegs { s.regs with c := v })
  | .d => .ok () (s.setRegs { s.regs with d := v })
  | .e => .ok () (s.setRegs { s.regs with e := v })
  | .h => .ok () (s.setRegs { s.regs with h := v })
  | .l => .ok () (s.setRegs { s.regs with l := v })
  | .a => .ok () (s.setRegs { s.regs with a := v })
  | .hlInd => writeByte s.regs.hl v s

/-- The rank a number names, none outside 0..7 (10_state.md R24, R27). -/
def rankOfNumber (k : Nat) : Option Rank :=
  if k < 8 then some (Rank.ofCode (BitVec.ofNat 3 k)) else none

/-- The rank accessor by number, reading: outside 0..7 the fault `InvalidRank` (10_state.md R27).
No instruction reaches that fault, since the decoder's ranks are of type `Rank` (60_exceptions.md R265). -/
def readOperandNumber (k : Nat) (s : State) : Result Byte :=
  match rankOfNumber k with
  | some r => readOperand r s
  | none => .fault (.invalidRank k) s

/-- The rank accessor by number, writing (10_state.md R27). -/
def writeOperandNumber (k : Nat) (v : Byte) (s : State) : Result Unit :=
  match rankOfNumber k with
  | some r => writeOperand r v s
  | none => .fault (.invalidRank k) s

/-! ## Addresses and conditions -/

/-- The address of an indirect mode (30_encoding.md R131). -/
def indirectAddr (m : IndMode) (g : Regs) : Addr :=
  match m with
  | .bc => g.bc
  | .de => g.de
  | .hlInc | .hlDec => g.hl

/-- The registers after an access through an indirect mode: HL+ and HL- move HL from the address used (30_encoding.md R131). -/
def indirectAfter (m : IndMode) (a : Addr) (g : Regs) : Regs :=
  match m with
  | .bc | .de => g
  | .hlInc => g.setHl (a + 1)
  | .hlDec => g.setHl (a - 1)

/-- A high-RAM page address `0xFF00 | offset` (30_encoding.md R133). -/
def highAddr (offset : Byte) : Addr := 0xFF00 ||| offset.setWidth 16

/-- A displacement e8 as a 16-bit value, `sext_16(e8)` (30_encoding.md R133; 00_scope.md R9). -/
def displacement (e8 : Byte) : Addr := e8.signExtend 16

end Sys2Proof.Machine
end

