-- ==== Sys2Proof/Machine/Flags.lean ====
section
/-! DEFINITION. The flags and the ALU primitives (10_state.md R28; 41_alu.md part 1), every flag computation of the spec. -/

namespace Sys2Proof.Machine

/-- The four flags by name (10_state.md R28). -/
structure Flags where
  z : Bool
  n : Bool
  h : Bool
  c : Bool
  deriving DecidableEq, Repr

/-- The flags that a value of F holds: Z, N, H, C in bits 7 to 4 (10_state.md R28). -/
def Flags.ofByte (f : Byte) : Flags :=
  { z := f.getLsbD 7, n := f.getLsbD 6, h := f.getLsbD 5, c := f.getLsbD 4 }

/-- The value of F for four flags: masks 0x80, 0x40, 0x20, 0x10, low nibble 0 (10_state.md R28, R29). -/
def Flags.toByte (x : Flags) : Byte :=
  (if x.z then 0x80 else 0) ||| (if x.n then 0x40 else 0) ||| (if x.h then 0x20 else 0) ||| (if x.c then 0x10 else 0)

/-- The flags of the register file (10_state.md R28). -/
def Regs.flags (g : Regs) : Flags := Flags.ofByte g.f

/-- Writing all four flags (10_state.md R28, R29). -/
def Regs.setFlags (g : Regs) (x : Flags) : Regs := g.setF x.toByte

/-- Whether a JR condition holds (30_encoding.md R132). -/
def condHolds (cc : Cond) (x : Flags) : Bool :=
  match cc with
  | .nz => !x.z
  | .z => x.z
  | .nc => !x.c
  | .c => x.c

/-- The low nibble of a byte, `v & 0xF`. -/
def lowNibble (v : Byte) : Nat := v.toNat % 16

/-- The result and the four flags of an ALU primitive (41_alu.md R170). -/
structure AluResult where
  r     : Byte
  flags : Flags
  deriving DecidableEq, Repr

/-- A sum of naturals `s` with half sum `half`, reduced (41_alu.md R171, R172). -/
def sumResult (s half : Nat) : AluResult :=
  let r := BitVec.ofNat 8 s
  { r := r, flags := { z := r == 0, n := false, h := decide (half > 15), c := decide (s > 255) } }

/-- A difference of integers `d` with half difference `half`, reduced (41_alu.md R173, R174). -/
def differenceResult (d half : Int) : AluResult :=
  let r := BitVec.ofInt 8 d
  { r := r, flags := { z := r == 0, n := true, h := decide (half < 0), c := decide (d < 0) } }

/-- add (41_alu.md R171). -/
def aluAdd (a b : Byte) : AluResult := sumResult (a.toNat + b.toNat) (lowNibble a + lowNibble b)

/-- sub (41_alu.md R173). -/
def aluSub (a b : Byte) : AluResult :=
  differenceResult ((a.toNat : Int) - b.toNat) ((lowNibble a : Int) - lowNibble b)

/-- The operand "incremented by 1 first if Carry flag was set", modulo 256 (41_alu.md R172, R174). -/
def carryOperand (b : Byte) (cin : Bool) : Byte := if cin then b + 1 else b

/-- adc in either `CARRY_IN_MODE` (41_alu.md R172). -/
def aluAdc (mode : CarryInMode) (a b : Byte) (cin : Bool) : AluResult :=
  match mode with
  | .operandIncrement8 => aluAdd a (carryOperand b cin)
  | .sm83ThreeOperand =>
    sumResult (a.toNat + b.toNat + cin.toNat) (lowNibble a + lowNibble b + cin.toNat)

/-- sbc in either `CARRY_IN_MODE` (41_alu.md R174). -/
def aluSbc (mode : CarryInMode) (a b : Byte) (cin : Bool) : AluResult :=
  match mode with
  | .operandIncrement8 => aluSub a (carryOperand b cin)
  | .sm83ThreeOperand =>
    differenceResult ((a.toNat : Int) - b.toNat - cin.toNat) ((lowNibble a : Int) - lowNibble b - cin.toNat)

/-- and (41_alu.md R175). -/
def aluAnd (a b : Byte) : AluResult :=
  { r := a &&& b, flags := { z := a &&& b == 0, n := false, h := true, c := false } }

/-- xor (41_alu.md R176). -/
def aluXor (a b : Byte) : AluResult :=
  { r := a ^^^ b, flags := { z := a ^^^ b == 0, n := false, h := false, c := false } }

/-- or (41_alu.md R177). -/
def aluOr (a b : Byte) : AluResult :=
  { r := a ||| b, flags := { z := a ||| b == 0, n := false, h := false, c := false } }

/-- The primitive of an ALU-block operation; cp computes sub's flags (41_alu.md R178, R181). -/
def aluPrimitive (mode : CarryInMode) (op : AluOp) (a b : Byte) (cin : Bool) : AluResult :=
  match op with
  | .add => aluAdd a b
  | .adc => aluAdc mode a b cin
  | .sub => aluSub a b
  | .sbc => aluSbc mode a b cin
  | .and => aluAnd a b
  | .xor => aluXor a b
  | .or => aluOr a b
  | .cp => aluSub a b

/-- The flags after a bit test of bit `n` of `b`: C is kept (41_alu.md R179). -/
def bitTestFlags (n : Fin 8) (b : Byte) (x : Flags) : Flags :=
  { x with z := !b.getLsbD n, n := false, h := true }

/-- bit-clear (41_alu.md R180). -/
def clearBit (n : Fin 8) (b : Byte) : Byte := b &&& ~~~(1#8 <<< n.val)

/-- bit-set (41_alu.md R180). -/
def setBit (n : Fin 8) (b : Byte) : Byte := b ||| (1#8 <<< n.val)

end Sys2Proof.Machine
end

