-- ==== Sys2Proof/Machine/Alu.lean ====
section
/-! DEFINITION. The ALU block (41_alu.md part 2): the shared operation, then one meaning for each instruction. -/

namespace Sys2Proof.Machine

/-- The result goes to A except for CP, which discards it (41_alu.md R181, R189). -/
def Regs.setAluResult (op : AluOp) (x : AluResult) (g : Regs) : Regs :=
  match op with
  | .cp => g.setFlags x.flags
  | .add | .adc | .sub | .sbc | .and | .xor | .or => Regs.setFlags { g with a := x.r } x.flags

/-- An ALU-block instruction: the operand is read first, then A and all four flags are written (41_alu.md R181, R191). -/
def alu (op : AluOp) (src : Rank) (s : State) : Host.Outcome State Fault Refusal :=
  ((readOperand src s).bind fun b s =>
    .ok () (s.setRegs (s.regs.setAluResult op
      (aluPrimitive s.params.carryInMode op s.regs.a b s.regs.flags.c)))).outcome

/-! ## One meaning for each instruction -/

/-- ADD A,B (41_alu.md R182). -/
def execAddA_B (s : State) : Host.Outcome State Fault Refusal := alu .add .b s

/-- ADD A,C (41_alu.md R182). -/
def execAddA_C (s : State) : Host.Outcome State Fault Refusal := alu .add .c s

/-- ADD A,D (41_alu.md R182). -/
def execAddA_D (s : State) : Host.Outcome State Fault Refusal := alu .add .d s

/-- ADD A,E (41_alu.md R182). -/
def execAddA_E (s : State) : Host.Outcome State Fault Refusal := alu .add .e s

/-- ADD A,H (41_alu.md R182). -/
def execAddA_H (s : State) : Host.Outcome State Fault Refusal := alu .add .h s

/-- ADD A,L (41_alu.md R182). -/
def execAddA_L (s : State) : Host.Outcome State Fault Refusal := alu .add .l s

/-- ADD A,(HL) (41_alu.md R182). -/
def execAddA_IndHL (s : State) : Host.Outcome State Fault Refusal := alu .add .hlInd s

/-- ADD A,A (41_alu.md R182). -/
def execAddA_A (s : State) : Host.Outcome State Fault Refusal := alu .add .a s

/-- ADC A,B (41_alu.md R183). -/
def execAdcA_B (s : State) : Host.Outcome State Fault Refusal := alu .adc .b s

/-- ADC A,C (41_alu.md R183). -/
def execAdcA_C (s : State) : Host.Outcome State Fault Refusal := alu .adc .c s

/-- ADC A,D (41_alu.md R183). -/
def execAdcA_D (s : State) : Host.Outcome State Fault Refusal := alu .adc .d s

/-- ADC A,E (41_alu.md R183). -/
def execAdcA_E (s : State) : Host.Outcome State Fault Refusal := alu .adc .e s

/-- ADC A,H (41_alu.md R183). -/
def execAdcA_H (s : State) : Host.Outcome State Fault Refusal := alu .adc .h s

/-- ADC A,L (41_alu.md R183). -/
def execAdcA_L (s : State) : Host.Outcome State Fault Refusal := alu .adc .l s

/-- ADC A,(HL) (41_alu.md R183). -/
def execAdcA_IndHL (s : State) : Host.Outcome State Fault Refusal := alu .adc .hlInd s

/-- ADC A,A (41_alu.md R183). -/
def execAdcA_A (s : State) : Host.Outcome State Fault Refusal := alu .adc .a s

/-- SUB B (41_alu.md R184). -/
def execSub_B (s : State) : Host.Outcome State Fault Refusal := alu .sub .b s

/-- SUB C (41_alu.md R184). -/
def execSub_C (s : State) : Host.Outcome State Fault Refusal := alu .sub .c s

/-- SUB D (41_alu.md R184). -/
def execSub_D (s : State) : Host.Outcome State Fault Refusal := alu .sub .d s

/-- SUB E (41_alu.md R184). -/
def execSub_E (s : State) : Host.Outcome State Fault Refusal := alu .sub .e s

/-- SUB H (41_alu.md R184). -/
def execSub_H (s : State) : Host.Outcome State Fault Refusal := alu .sub .h s

/-- SUB L (41_alu.md R184). -/
def execSub_L (s : State) : Host.Outcome State Fault Refusal := alu .sub .l s

/-- SUB (HL) (41_alu.md R184). -/
def execSub_IndHL (s : State) : Host.Outcome State Fault Refusal := alu .sub .hlInd s

/-- SUB A (41_alu.md R184). -/
def execSub_A (s : State) : Host.Outcome State Fault Refusal := alu .sub .a s

/-- SBC A,B (41_alu.md R185). -/
def execSbcA_B (s : State) : Host.Outcome State Fault Refusal := alu .sbc .b s

/-- SBC A,C (41_alu.md R185). -/
def execSbcA_C (s : State) : Host.Outcome State Fault Refusal := alu .sbc .c s

/-- SBC A,D (41_alu.md R185). -/
def execSbcA_D (s : State) : Host.Outcome State Fault Refusal := alu .sbc .d s

/-- SBC A,E (41_alu.md R185). -/
def execSbcA_E (s : State) : Host.Outcome State Fault Refusal := alu .sbc .e s

/-- SBC A,H (41_alu.md R185). -/
def execSbcA_H (s : State) : Host.Outcome State Fault Refusal := alu .sbc .h s

/-- SBC A,L (41_alu.md R185). -/
def execSbcA_L (s : State) : Host.Outcome State Fault Refusal := alu .sbc .l s

/-- SBC A,(HL) (41_alu.md R185). -/
def execSbcA_IndHL (s : State) : Host.Outcome State Fault Refusal := alu .sbc .hlInd s

/-- SBC A,A (41_alu.md R185). -/
def execSbcA_A (s : State) : Host.Outcome State Fault Refusal := alu .sbc .a s

/-- AND B (41_alu.md R186). -/
def execAnd_B (s : State) : Host.Outcome State Fault Refusal := alu .and .b s

/-- AND C (41_alu.md R186). -/
def execAnd_C (s : State) : Host.Outcome State Fault Refusal := alu .and .c s

/-- AND D (41_alu.md R186). -/
def execAnd_D (s : State) : Host.Outcome State Fault Refusal := alu .and .d s

/-- AND E (41_alu.md R186). -/
def execAnd_E (s : State) : Host.Outcome State Fault Refusal := alu .and .e s

/-- AND H (41_alu.md R186). -/
def execAnd_H (s : State) : Host.Outcome State Fault Refusal := alu .and .h s

/-- AND L (41_alu.md R186). -/
def execAnd_L (s : State) : Host.Outcome State Fault Refusal := alu .and .l s

/-- AND (HL) (41_alu.md R186). -/
def execAnd_IndHL (s : State) : Host.Outcome State Fault Refusal := alu .and .hlInd s

/-- AND A (41_alu.md R186). -/
def execAnd_A (s : State) : Host.Outcome State Fault Refusal := alu .and .a s

/-- XOR B (41_alu.md R187). -/
def execXor_B (s : State) : Host.Outcome State Fault Refusal := alu .xor .b s

/-- XOR C (41_alu.md R187). -/
def execXor_C (s : State) : Host.Outcome State Fault Refusal := alu .xor .c s

/-- XOR D (41_alu.md R187). -/
def execXor_D (s : State) : Host.Outcome State Fault Refusal := alu .xor .d s

/-- XOR E (41_alu.md R187). -/
def execXor_E (s : State) : Host.Outcome State Fault Refusal := alu .xor .e s

/-- XOR H (41_alu.md R187). -/
def execXor_H (s : State) : Host.Outcome State Fault Refusal := alu .xor .h s

/-- XOR L (41_alu.md R187). -/
def execXor_L (s : State) : Host.Outcome State Fault Refusal := alu .xor .l s

/-- XOR (HL) (41_alu.md R187). -/
def execXor_IndHL (s : State) : Host.Outcome State Fault Refusal := alu .xor .hlInd s

/-- XOR A (41_alu.md R187). -/
def execXor_A (s : State) : Host.Outcome State Fault Refusal := alu .xor .a s

/-- OR B (41_alu.md R188). -/
def execOr_B (s : State) : Host.Outcome State Fault Refusal := alu .or .b s

/-- OR C (41_alu.md R188). -/
def execOr_C (s : State) : Host.Outcome State Fault Refusal := alu .or .c s

/-- OR D (41_alu.md R188). -/
def execOr_D (s : State) : Host.Outcome State Fault Refusal := alu .or .d s

/-- OR E (41_alu.md R188). -/
def execOr_E (s : State) : Host.Outcome State Fault Refusal := alu .or .e s

/-- OR H (41_alu.md R188). -/
def execOr_H (s : State) : Host.Outcome State Fault Refusal := alu .or .h s

/-- OR L (41_alu.md R188). -/
def execOr_L (s : State) : Host.Outcome State Fault Refusal := alu .or .l s

/-- OR (HL) (41_alu.md R188). -/
def execOr_IndHL (s : State) : Host.Outcome State Fault Refusal := alu .or .hlInd s

/-- OR A (41_alu.md R188). -/
def execOr_A (s : State) : Host.Outcome State Fault Refusal := alu .or .a s

/-- CP B (41_alu.md R189). -/
def execCp_B (s : State) : Host.Outcome State Fault Refusal := alu .cp .b s

/-- CP C (41_alu.md R189). -/
def execCp_C (s : State) : Host.Outcome State Fault Refusal := alu .cp .c s

/-- CP D (41_alu.md R189). -/
def execCp_D (s : State) : Host.Outcome State Fault Refusal := alu .cp .d s

/-- CP E (41_alu.md R189). -/
def execCp_E (s : State) : Host.Outcome State Fault Refusal := alu .cp .e s

/-- CP H (41_alu.md R189). -/
def execCp_H (s : State) : Host.Outcome State Fault Refusal := alu .cp .h s

/-- CP L (41_alu.md R189). -/
def execCp_L (s : State) : Host.Outcome State Fault Refusal := alu .cp .l s

/-- CP (HL) (41_alu.md R189). -/
def execCp_IndHL (s : State) : Host.Outcome State Fault Refusal := alu .cp .hlInd s

/-- CP A (41_alu.md R189). -/
def execCp_A (s : State) : Host.Outcome State Fault Refusal := alu .cp .a s

end Sys2Proof.Machine
end

