-- ==== Sys2Proof/Machine/Control.lean ====
section
/-! DEFINITION. NOP, HALT and the control transfers (43_control.md): the shared operations, then one meaning for each instruction. -/

namespace Sys2Proof.Machine

/-- NOP (43_control.md R215). -/
def nop (s : State) : Host.Outcome State Fault Refusal := .next s

/-- HALT (43_control.md R216). -/
def halt (s : State) : Host.Outcome State Fault Refusal := .next { s with status := .halted }

/-- The target of a relative jump, from the PC after the displacement byte (30_encoding.md R133). -/
def relativeTarget (e8 : Byte) (s : State) : Addr := s.regs.pc + displacement e8

/-- JR e8 (43_control.md R218); e8 is already fetched (log entry 7). -/
def jumpRelative (e8 : Byte) (s : State) : Host.Outcome State Fault Refusal :=
  .next (jump (relativeTarget e8 s) s)

/-- JR cc,e8 (43_control.md R219–R222). -/
def jumpRelativeIf (cc : Cond) (e8 : Byte) (s : State) : Host.Outcome State Fault Refusal :=
  if condHolds cc s.regs.flags then .next (jump (relativeTarget e8 s) s) else .next s

/-- CALL a16: push the address after the CALL, then set PC, without the jump's hook (43_control.md R223). -/
def call (a16 : Addr) (s : State) : Host.Outcome State Fault Refusal :=
  ((push s.regs.pc s).bind fun _ s => .ok () (s.setPc a16)).outcome

/-- RET (43_control.md R224). -/
def ret (s : State) : Host.Outcome State Fault Refusal :=
  ((pop s).bind fun t s => .ok () (jump t s)).outcome

/-! ## One meaning for each instruction -/

/-- NOP (43_control.md R215). -/
def execNop (s : State) : Host.Outcome State Fault Refusal := nop s

/-- JR e8 (43_control.md R218). -/
def execJr (e8 : Byte) (s : State) : Host.Outcome State Fault Refusal := jumpRelative e8 s

/-- JR NZ,e8 (43_control.md R219). -/
def execJrNZ (e8 : Byte) (s : State) : Host.Outcome State Fault Refusal := jumpRelativeIf .nz e8 s

/-- JR Z,e8 (43_control.md R220). -/
def execJrZ (e8 : Byte) (s : State) : Host.Outcome State Fault Refusal := jumpRelativeIf .z e8 s

/-- JR NC,e8 (43_control.md R221). -/
def execJrNC (e8 : Byte) (s : State) : Host.Outcome State Fault Refusal := jumpRelativeIf .nc e8 s

/-- JR C,e8 (43_control.md R222). -/
def execJrC (e8 : Byte) (s : State) : Host.Outcome State Fault Refusal := jumpRelativeIf .c e8 s

/-- HALT (43_control.md R216). -/
def execHalt (s : State) : Host.Outcome State Fault Refusal := halt s

/-- RET (43_control.md R224). -/
def execRet (s : State) : Host.Outcome State Fault Refusal := ret s

/-- CALL a16 (43_control.md R223). -/
def execCall (a16 : Addr) (s : State) : Host.Outcome State Fault Refusal := call a16 s

end Sys2Proof.Machine
end

