-- ==== Sys2Proof/Machine/Extended.lean ====
section
/-! DEFINITION. The extended 0xCB table (44_extended_cb.md): the shared operation of BIT, RES and SET, then one meaning for each instruction. -/

namespace Sys2Proof.Machine

/-- BIT n,r (44_extended_cb.md R241). -/
def bitTest (n : Fin 8) (r : Rank) (s : State) : Host.Outcome State Fault Refusal :=
  ((readOperand r s).bind fun b s =>
    .ok () (s.setRegs (s.regs.setFlags (bitTestFlags n b s.regs.flags)))).outcome

/-- RES n,r: read, then write, also where the bit is already 0 (44_extended_cb.md R242). -/
def bitClear (n : Fin 8) (r : Rank) (s : State) : Host.Outcome State Fault Refusal :=
  ((readOperand r s).bind fun b s => writeOperand r (clearBit n b) s).outcome

/-- SET n,r: read, then write, also where the bit is already 1 (44_extended_cb.md R243). -/
def bitSet (n : Fin 8) (r : Rank) (s : State) : Host.Outcome State Fault Refusal :=
  ((readOperand r s).bind fun b s => writeOperand r (setBit n b) s).outcome

/-! ## One meaning for each instruction -/

/-- BIT 0,B (44_extended_cb.md R241). -/
def execBit0_B (s : State) : Host.Outcome State Fault Refusal := bitTest 0 .b s

/-- BIT 0,C (44_extended_cb.md R241). -/
def execBit0_C (s : State) : Host.Outcome State Fault Refusal := bitTest 0 .c s

/-- BIT 0,D (44_extended_cb.md R241). -/
def execBit0_D (s : State) : Host.Outcome State Fault Refusal := bitTest 0 .d s

/-- BIT 0,E (44_extended_cb.md R241). -/
def execBit0_E (s : State) : Host.Outcome State Fault Refusal := bitTest 0 .e s

/-- BIT 0,H (44_extended_cb.md R241). -/
def execBit0_H (s : State) : Host.Outcome State Fault Refusal := bitTest 0 .h s

/-- BIT 0,L (44_extended_cb.md R241). -/
def execBit0_L (s : State) : Host.Outcome State Fault Refusal := bitTest 0 .l s

/-- BIT 0,(HL) (44_extended_cb.md R241). -/
def execBit0_IndHL (s : State) : Host.Outcome State Fault Refusal := bitTest 0 .hlInd s

/-- BIT 0,A (44_extended_cb.md R241). -/
def execBit0_A (s : State) : Host.Outcome State Fault Refusal := bitTest 0 .a s

/-- BIT 1,B (44_extended_cb.md R241). -/
def execBit1_B (s : State) : Host.Outcome State Fault Refusal := bitTest 1 .b s

/-- BIT 1,C (44_extended_cb.md R241). -/
def execBit1_C (s : State) : Host.Outcome State Fault Refusal := bitTest 1 .c s

/-- BIT 1,D (44_extended_cb.md R241). -/
def execBit1_D (s : State) : Host.Outcome State Fault Refusal := bitTest 1 .d s

/-- BIT 1,E (44_extended_cb.md R241). -/
def execBit1_E (s : State) : Host.Outcome State Fault Refusal := bitTest 1 .e s

/-- BIT 1,H (44_extended_cb.md R241). -/
def execBit1_H (s : State) : Host.Outcome State Fault Refusal := bitTest 1 .h s

/-- BIT 1,L (44_extended_cb.md R241). -/
def execBit1_L (s : State) : Host.Outcome State Fault Refusal := bitTest 1 .l s

/-- BIT 1,(HL) (44_extended_cb.md R241). -/
def execBit1_IndHL (s : State) : Host.Outcome State Fault Refusal := bitTest 1 .hlInd s

/-- BIT 1,A (44_extended_cb.md R241). -/
def execBit1_A (s : State) : Host.Outcome State Fault Refusal := bitTest 1 .a s

/-- BIT 2,B (44_extended_cb.md R241). -/
def execBit2_B (s : State) : Host.Outcome State Fault Refusal := bitTest 2 .b s

/-- BIT 2,C (44_extended_cb.md R241). -/
def execBit2_C (s : State) : Host.Outcome State Fault Refusal := bitTest 2 .c s

/-- BIT 2,D (44_extended_cb.md R241). -/
def execBit2_D (s : State) : Host.Outcome State Fault Refusal := bitTest 2 .d s

/-- BIT 2,E (44_extended_cb.md R241). -/
def execBit2_E (s : State) : Host.Outcome State Fault Refusal := bitTest 2 .e s

/-- BIT 2,H (44_extended_cb.md R241). -/
def execBit2_H (s : State) : Host.Outcome State Fault Refusal := bitTest 2 .h s

/-- BIT 2,L (44_extended_cb.md R241). -/
def execBit2_L (s : State) : Host.Outcome State Fault Refusal := bitTest 2 .l s

/-- BIT 2,(HL) (44_extended_cb.md R241). -/
def execBit2_IndHL (s : State) : Host.Outcome State Fault Refusal := bitTest 2 .hlInd s

/-- BIT 2,A (44_extended_cb.md R241). -/
def execBit2_A (s : State) : Host.Outcome State Fault Refusal := bitTest 2 .a s

/-- BIT 3,B (44_extended_cb.md R241). -/
def execBit3_B (s : State) : Host.Outcome State Fault Refusal := bitTest 3 .b s

/-- BIT 3,C (44_extended_cb.md R241). -/
def execBit3_C (s : State) : Host.Outcome State Fault Refusal := bitTest 3 .c s

/-- BIT 3,D (44_extended_cb.md R241). -/
def execBit3_D (s : State) : Host.Outcome State Fault Refusal := bitTest 3 .d s

/-- BIT 3,E (44_extended_cb.md R241). -/
def execBit3_E (s : State) : Host.Outcome State Fault Refusal := bitTest 3 .e s

/-- BIT 3,H (44_extended_cb.md R241). -/
def execBit3_H (s : State) : Host.Outcome State Fault Refusal := bitTest 3 .h s

/-- BIT 3,L (44_extended_cb.md R241). -/
def execBit3_L (s : State) : Host.Outcome State Fault Refusal := bitTest 3 .l s

/-- BIT 3,(HL) (44_extended_cb.md R241). -/
def execBit3_IndHL (s : State) : Host.Outcome State Fault Refusal := bitTest 3 .hlInd s

/-- BIT 3,A (44_extended_cb.md R241). -/
def execBit3_A (s : State) : Host.Outcome State Fault Refusal := bitTest 3 .a s

/-- BIT 4,B (44_extended_cb.md R241). -/
def execBit4_B (s : State) : Host.Outcome State Fault Refusal := bitTest 4 .b s

/-- BIT 4,C (44_extended_cb.md R241). -/
def execBit4_C (s : State) : Host.Outcome State Fault Refusal := bitTest 4 .c s

/-- BIT 4,D (44_extended_cb.md R241). -/
def execBit4_D (s : State) : Host.Outcome State Fault Refusal := bitTest 4 .d s

/-- BIT 4,E (44_extended_cb.md R241). -/
def execBit4_E (s : State) : Host.Outcome State Fault Refusal := bitTest 4 .e s

/-- BIT 4,H (44_extended_cb.md R241). -/
def execBit4_H (s : State) : Host.Outcome State Fault Refusal := bitTest 4 .h s

/-- BIT 4,L (44_extended_cb.md R241). -/
def execBit4_L (s : State) : Host.Outcome State Fault Refusal := bitTest 4 .l s

/-- BIT 4,(HL) (44_extended_cb.md R241). -/
def execBit4_IndHL (s : State) : Host.Outcome State Fault Refusal := bitTest 4 .hlInd s

/-- BIT 4,A (44_extended_cb.md R241). -/
def execBit4_A (s : State) : Host.Outcome State Fault Refusal := bitTest 4 .a s

/-- BIT 5,B (44_extended_cb.md R241). -/
def execBit5_B (s : State) : Host.Outcome State Fault Refusal := bitTest 5 .b s

/-- BIT 5,C (44_extended_cb.md R241). -/
def execBit5_C (s : State) : Host.Outcome State Fault Refusal := bitTest 5 .c s

/-- BIT 5,D (44_extended_cb.md R241). -/
def execBit5_D (s : State) : Host.Outcome State Fault Refusal := bitTest 5 .d s

/-- BIT 5,E (44_extended_cb.md R241). -/
def execBit5_E (s : State) : Host.Outcome State Fault Refusal := bitTest 5 .e s

/-- BIT 5,H (44_extended_cb.md R241). -/
def execBit5_H (s : State) : Host.Outcome State Fault Refusal := bitTest 5 .h s

/-- BIT 5,L (44_extended_cb.md R241). -/
def execBit5_L (s : State) : Host.Outcome State Fault Refusal := bitTest 5 .l s

/-- BIT 5,(HL) (44_extended_cb.md R241). -/
def execBit5_IndHL (s : State) : Host.Outcome State Fault Refusal := bitTest 5 .hlInd s

/-- BIT 5,A (44_extended_cb.md R241). -/
def execBit5_A (s : State) : Host.Outcome State Fault Refusal := bitTest 5 .a s

/-- BIT 6,B (44_extended_cb.md R241). -/
def execBit6_B (s : State) : Host.Outcome State Fault Refusal := bitTest 6 .b s

/-- BIT 6,C (44_extended_cb.md R241). -/
def execBit6_C (s : State) : Host.Outcome State Fault Refusal := bitTest 6 .c s

/-- BIT 6,D (44_extended_cb.md R241). -/
def execBit6_D (s : State) : Host.Outcome State Fault Refusal := bitTest 6 .d s

/-- BIT 6,E (44_extended_cb.md R241). -/
def execBit6_E (s : State) : Host.Outcome State Fault Refusal := bitTest 6 .e s

/-- BIT 6,H (44_extended_cb.md R241). -/
def execBit6_H (s : State) : Host.Outcome State Fault Refusal := bitTest 6 .h s

/-- BIT 6,L (44_extended_cb.md R241). -/
def execBit6_L (s : State) : Host.Outcome State Fault Refusal := bitTest 6 .l s

/-- BIT 6,(HL) (44_extended_cb.md R241). -/
def execBit6_IndHL (s : State) : Host.Outcome State Fault Refusal := bitTest 6 .hlInd s

/-- BIT 6,A (44_extended_cb.md R241). -/
def execBit6_A (s : State) : Host.Outcome State Fault Refusal := bitTest 6 .a s

/-- BIT 7,B (44_extended_cb.md R241). -/
def execBit7_B (s : State) : Host.Outcome State Fault Refusal := bitTest 7 .b s

/-- BIT 7,C (44_extended_cb.md R241). -/
def execBit7_C (s : State) : Host.Outcome State Fault Refusal := bitTest 7 .c s

/-- BIT 7,D (44_extended_cb.md R241). -/
def execBit7_D (s : State) : Host.Outcome State Fault Refusal := bitTest 7 .d s

/-- BIT 7,E (44_extended_cb.md R241). -/
def execBit7_E (s : State) : Host.Outcome State Fault Refusal := bitTest 7 .e s

/-- BIT 7,H (44_extended_cb.md R241). -/
def execBit7_H (s : State) : Host.Outcome State Fault Refusal := bitTest 7 .h s

/-- BIT 7,L (44_extended_cb.md R241). -/
def execBit7_L (s : State) : Host.Outcome State Fault Refusal := bitTest 7 .l s

/-- BIT 7,(HL) (44_extended_cb.md R241). -/
def execBit7_IndHL (s : State) : Host.Outcome State Fault Refusal := bitTest 7 .hlInd s

/-- BIT 7,A (44_extended_cb.md R241). -/
def execBit7_A (s : State) : Host.Outcome State Fault Refusal := bitTest 7 .a s

/-- RES 0,B (44_extended_cb.md R242). -/
def execRes0_B (s : State) : Host.Outcome State Fault Refusal := bitClear 0 .b s

/-- RES 0,C (44_extended_cb.md R242). -/
def execRes0_C (s : State) : Host.Outcome State Fault Refusal := bitClear 0 .c s

/-- RES 0,D (44_extended_cb.md R242). -/
def execRes0_D (s : State) : Host.Outcome State Fault Refusal := bitClear 0 .d s

/-- RES 0,E (44_extended_cb.md R242). -/
def execRes0_E (s : State) : Host.Outcome State Fault Refusal := bitClear 0 .e s

/-- RES 0,H (44_extended_cb.md R242). -/
def execRes0_H (s : State) : Host.Outcome State Fault Refusal := bitClear 0 .h s

/-- RES 0,L (44_extended_cb.md R242). -/
def execRes0_L (s : State) : Host.Outcome State Fault Refusal := bitClear 0 .l s

/-- RES 0,(HL) (44_extended_cb.md R242). -/
def execRes0_IndHL (s : State) : Host.Outcome State Fault Refusal := bitClear 0 .hlInd s

/-- RES 0,A (44_extended_cb.md R242). -/
def execRes0_A (s : State) : Host.Outcome State Fault Refusal := bitClear 0 .a s

/-- RES 1,B (44_extended_cb.md R242). -/
def execRes1_B (s : State) : Host.Outcome State Fault Refusal := bitClear 1 .b s

/-- RES 1,C (44_extended_cb.md R242). -/
def execRes1_C (s : State) : Host.Outcome State Fault Refusal := bitClear 1 .c s

/-- RES 1,D (44_extended_cb.md R242). -/
def execRes1_D (s : State) : Host.Outcome State Fault Refusal := bitClear 1 .d s

/-- RES 1,E (44_extended_cb.md R242). -/
def execRes1_E (s : State) : Host.Outcome State Fault Refusal := bitClear 1 .e s

/-- RES 1,H (44_extended_cb.md R242). -/
def execRes1_H (s : State) : Host.Outcome State Fault Refusal := bitClear 1 .h s

/-- RES 1,L (44_extended_cb.md R242). -/
def execRes1_L (s : State) : Host.Outcome State Fault Refusal := bitClear 1 .l s

/-- RES 1,(HL) (44_extended_cb.md R242). -/
def execRes1_IndHL (s : State) : Host.Outcome State Fault Refusal := bitClear 1 .hlInd s

/-- RES 1,A (44_extended_cb.md R242). -/
def execRes1_A (s : State) : Host.Outcome State Fault Refusal := bitClear 1 .a s

/-- RES 2,B (44_extended_cb.md R242). -/
def execRes2_B (s : State) : Host.Outcome State Fault Refusal := bitClear 2 .b s

/-- RES 2,C (44_extended_cb.md R242). -/
def execRes2_C (s : State) : Host.Outcome State Fault Refusal := bitClear 2 .c s

/-- RES 2,D (44_extended_cb.md R242). -/
def execRes2_D (s : State) : Host.Outcome State Fault Refusal := bitClear 2 .d s

/-- RES 2,E (44_extended_cb.md R242). -/
def execRes2_E (s : State) : Host.Outcome State Fault Refusal := bitClear 2 .e s

/-- RES 2,H (44_extended_cb.md R242). -/
def execRes2_H (s : State) : Host.Outcome State Fault Refusal := bitClear 2 .h s

/-- RES 2,L (44_extended_cb.md R242). -/
def execRes2_L (s : State) : Host.Outcome State Fault Refusal := bitClear 2 .l s

/-- RES 2,(HL) (44_extended_cb.md R242). -/
def execRes2_IndHL (s : State) : Host.Outcome State Fault Refusal := bitClear 2 .hlInd s

/-- RES 2,A (44_extended_cb.md R242). -/
def execRes2_A (s : State) : Host.Outcome State Fault Refusal := bitClear 2 .a s

/-- RES 3,B (44_extended_cb.md R242). -/
def execRes3_B (s : State) : Host.Outcome State Fault Refusal := bitClear 3 .b s

/-- RES 3,C (44_extended_cb.md R242). -/
def execRes3_C (s : State) : Host.Outcome State Fault Refusal := bitClear 3 .c s

/-- RES 3,D (44_extended_cb.md R242). -/
def execRes3_D (s : State) : Host.Outcome State Fault Refusal := bitClear 3 .d s

/-- RES 3,E (44_extended_cb.md R242). -/
def execRes3_E (s : State) : Host.Outcome State Fault Refusal := bitClear 3 .e s

/-- RES 3,H (44_extended_cb.md R242). -/
def execRes3_H (s : State) : Host.Outcome State Fault Refusal := bitClear 3 .h s

/-- RES 3,L (44_extended_cb.md R242). -/
def execRes3_L (s : State) : Host.Outcome State Fault Refusal := bitClear 3 .l s

/-- RES 3,(HL) (44_extended_cb.md R242). -/
def execRes3_IndHL (s : State) : Host.Outcome State Fault Refusal := bitClear 3 .hlInd s

/-- RES 3,A (44_extended_cb.md R242). -/
def execRes3_A (s : State) : Host.Outcome State Fault Refusal := bitClear 3 .a s

/-- RES 4,B (44_extended_cb.md R242). -/
def execRes4_B (s : State) : Host.Outcome State Fault Refusal := bitClear 4 .b s

/-- RES 4,C (44_extended_cb.md R242). -/
def execRes4_C (s : State) : Host.Outcome State Fault Refusal := bitClear 4 .c s

/-- RES 4,D (44_extended_cb.md R242). -/
def execRes4_D (s : State) : Host.Outcome State Fault Refusal := bitClear 4 .d s

/-- RES 4,E (44_extended_cb.md R242). -/
def execRes4_E (s : State) : Host.Outcome State Fault Refusal := bitClear 4 .e s

/-- RES 4,H (44_extended_cb.md R242). -/
def execRes4_H (s : State) : Host.Outcome State Fault Refusal := bitClear 4 .h s

/-- RES 4,L (44_extended_cb.md R242). -/
def execRes4_L (s : State) : Host.Outcome State Fault Refusal := bitClear 4 .l s

/-- RES 4,(HL) (44_extended_cb.md R242). -/
def execRes4_IndHL (s : State) : Host.Outcome State Fault Refusal := bitClear 4 .hlInd s

/-- RES 4,A (44_extended_cb.md R242). -/
def execRes4_A (s : State) : Host.Outcome State Fault Refusal := bitClear 4 .a s

/-- RES 5,B (44_extended_cb.md R242). -/
def execRes5_B (s : State) : Host.Outcome State Fault Refusal := bitClear 5 .b s

/-- RES 5,C (44_extended_cb.md R242). -/
def execRes5_C (s : State) : Host.Outcome State Fault Refusal := bitClear 5 .c s

/-- RES 5,D (44_extended_cb.md R242). -/
def execRes5_D (s : State) : Host.Outcome State Fault Refusal := bitClear 5 .d s

/-- RES 5,E (44_extended_cb.md R242). -/
def execRes5_E (s : State) : Host.Outcome State Fault Refusal := bitClear 5 .e s

/-- RES 5,H (44_extended_cb.md R242). -/
def execRes5_H (s : State) : Host.Outcome State Fault Refusal := bitClear 5 .h s

/-- RES 5,L (44_extended_cb.md R242). -/
def execRes5_L (s : State) : Host.Outcome State Fault Refusal := bitClear 5 .l s

/-- RES 5,(HL) (44_extended_cb.md R242). -/
def execRes5_IndHL (s : State) : Host.Outcome State Fault Refusal := bitClear 5 .hlInd s

/-- RES 5,A (44_extended_cb.md R242). -/
def execRes5_A (s : State) : Host.Outcome State Fault Refusal := bitClear 5 .a s

/-- RES 6,B (44_extended_cb.md R242). -/
def execRes6_B (s : State) : Host.Outcome State Fault Refusal := bitClear 6 .b s

/-- RES 6,C (44_extended_cb.md R242). -/
def execRes6_C (s : State) : Host.Outcome State Fault Refusal := bitClear 6 .c s

/-- RES 6,D (44_extended_cb.md R242). -/
def execRes6_D (s : State) : Host.Outcome State Fault Refusal := bitClear 6 .d s

/-- RES 6,E (44_extended_cb.md R242). -/
def execRes6_E (s : State) : Host.Outcome State Fault Refusal := bitClear 6 .e s

/-- RES 6,H (44_extended_cb.md R242). -/
def execRes6_H (s : State) : Host.Outcome State Fault Refusal := bitClear 6 .h s

/-- RES 6,L (44_extended_cb.md R242). -/
def execRes6_L (s : State) : Host.Outcome State Fault Refusal := bitClear 6 .l s

/-- RES 6,(HL) (44_extended_cb.md R242). -/
def execRes6_IndHL (s : State) : Host.Outcome State Fault Refusal := bitClear 6 .hlInd s

/-- RES 6,A (44_extended_cb.md R242). -/
def execRes6_A (s : State) : Host.Outcome State Fault Refusal := bitClear 6 .a s

/-- RES 7,B (44_extended_cb.md R242). -/
def execRes7_B (s : State) : Host.Outcome State Fault Refusal := bitClear 7 .b s

/-- RES 7,C (44_extended_cb.md R242). -/
def execRes7_C (s : State) : Host.Outcome State Fault Refusal := bitClear 7 .c s

/-- RES 7,D (44_extended_cb.md R242). -/
def execRes7_D (s : State) : Host.Outcome State Fault Refusal := bitClear 7 .d s

/-- RES 7,E (44_extended_cb.md R242). -/
def execRes7_E (s : State) : Host.Outcome State Fault Refusal := bitClear 7 .e s

/-- RES 7,H (44_extended_cb.md R242). -/
def execRes7_H (s : State) : Host.Outcome State Fault Refusal := bitClear 7 .h s

/-- RES 7,L (44_extended_cb.md R242). -/
def execRes7_L (s : State) : Host.Outcome State Fault Refusal := bitClear 7 .l s

/-- RES 7,(HL) (44_extended_cb.md R242). -/
def execRes7_IndHL (s : State) : Host.Outcome State Fault Refusal := bitClear 7 .hlInd s

/-- RES 7,A (44_extended_cb.md R242). -/
def execRes7_A (s : State) : Host.Outcome State Fault Refusal := bitClear 7 .a s

/-- SET 0,B (44_extended_cb.md R243). -/
def execSet0_B (s : State) : Host.Outcome State Fault Refusal := bitSet 0 .b s

/-- SET 0,C (44_extended_cb.md R243). -/
def execSet0_C (s : State) : Host.Outcome State Fault Refusal := bitSet 0 .c s

/-- SET 0,D (44_extended_cb.md R243). -/
def execSet0_D (s : State) : Host.Outcome State Fault Refusal := bitSet 0 .d s

/-- SET 0,E (44_extended_cb.md R243). -/
def execSet0_E (s : State) : Host.Outcome State Fault Refusal := bitSet 0 .e s

/-- SET 0,H (44_extended_cb.md R243). -/
def execSet0_H (s : State) : Host.Outcome State Fault Refusal := bitSet 0 .h s

/-- SET 0,L (44_extended_cb.md R243). -/
def execSet0_L (s : State) : Host.Outcome State Fault Refusal := bitSet 0 .l s

/-- SET 0,(HL) (44_extended_cb.md R243). -/
def execSet0_IndHL (s : State) : Host.Outcome State Fault Refusal := bitSet 0 .hlInd s

/-- SET 0,A (44_extended_cb.md R243). -/
def execSet0_A (s : State) : Host.Outcome State Fault Refusal := bitSet 0 .a s

/-- SET 1,B (44_extended_cb.md R243). -/
def execSet1_B (s : State) : Host.Outcome State Fault Refusal := bitSet 1 .b s

/-- SET 1,C (44_extended_cb.md R243). -/
def execSet1_C (s : State) : Host.Outcome State Fault Refusal := bitSet 1 .c s

/-- SET 1,D (44_extended_cb.md R243). -/
def execSet1_D (s : State) : Host.Outcome State Fault Refusal := bitSet 1 .d s

/-- SET 1,E (44_extended_cb.md R243). -/
def execSet1_E (s : State) : Host.Outcome State Fault Refusal := bitSet 1 .e s

/-- SET 1,H (44_extended_cb.md R243). -/
def execSet1_H (s : State) : Host.Outcome State Fault Refusal := bitSet 1 .h s

/-- SET 1,L (44_extended_cb.md R243). -/
def execSet1_L (s : State) : Host.Outcome State Fault Refusal := bitSet 1 .l s

/-- SET 1,(HL) (44_extended_cb.md R243). -/
def execSet1_IndHL (s : State) : Host.Outcome State Fault Refusal := bitSet 1 .hlInd s

/-- SET 1,A (44_extended_cb.md R243). -/
def execSet1_A (s : State) : Host.Outcome State Fault Refusal := bitSet 1 .a s

/-- SET 2,B (44_extended_cb.md R243). -/
def execSet2_B (s : State) : Host.Outcome State Fault Refusal := bitSet 2 .b s

/-- SET 2,C (44_extended_cb.md R243). -/
def execSet2_C (s : State) : Host.Outcome State Fault Refusal := bitSet 2 .c s

/-- SET 2,D (44_extended_cb.md R243). -/
def execSet2_D (s : State) : Host.Outcome State Fault Refusal := bitSet 2 .d s

/-- SET 2,E (44_extended_cb.md R243). -/
def execSet2_E (s : State) : Host.Outcome State Fault Refusal := bitSet 2 .e s

/-- SET 2,H (44_extended_cb.md R243). -/
def execSet2_H (s : State) : Host.Outcome State Fault Refusal := bitSet 2 .h s

/-- SET 2,L (44_extended_cb.md R243). -/
def execSet2_L (s : State) : Host.Outcome State Fault Refusal := bitSet 2 .l s

/-- SET 2,(HL) (44_extended_cb.md R243). -/
def execSet2_IndHL (s : State) : Host.Outcome State Fault Refusal := bitSet 2 .hlInd s

/-- SET 2,A (44_extended_cb.md R243). -/
def execSet2_A (s : State) : Host.Outcome State Fault Refusal := bitSet 2 .a s

/-- SET 3,B (44_extended_cb.md R243). -/
def execSet3_B (s : State) : Host.Outcome State Fault Refusal := bitSet 3 .b s

/-- SET 3,C (44_extended_cb.md R243). -/
def execSet3_C (s : State) : Host.Outcome State Fault Refusal := bitSet 3 .c s

/-- SET 3,D (44_extended_cb.md R243). -/
def execSet3_D (s : State) : Host.Outcome State Fault Refusal := bitSet 3 .d s

/-- SET 3,E (44_extended_cb.md R243). -/
def execSet3_E (s : State) : Host.Outcome State Fault Refusal := bitSet 3 .e s

/-- SET 3,H (44_extended_cb.md R243). -/
def execSet3_H (s : State) : Host.Outcome State Fault Refusal := bitSet 3 .h s

/-- SET 3,L (44_extended_cb.md R243). -/
def execSet3_L (s : State) : Host.Outcome State Fault Refusal := bitSet 3 .l s

/-- SET 3,(HL) (44_extended_cb.md R243). -/
def execSet3_IndHL (s : State) : Host.Outcome State Fault Refusal := bitSet 3 .hlInd s

/-- SET 3,A (44_extended_cb.md R243). -/
def execSet3_A (s : State) : Host.Outcome State Fault Refusal := bitSet 3 .a s

/-- SET 4,B (44_extended_cb.md R243). -/
def execSet4_B (s : State) : Host.Outcome State Fault Refusal := bitSet 4 .b s

/-- SET 4,C (44_extended_cb.md R243). -/
def execSet4_C (s : State) : Host.Outcome State Fault Refusal := bitSet 4 .c s

/-- SET 4,D (44_extended_cb.md R243). -/
def execSet4_D (s : State) : Host.Outcome State Fault Refusal := bitSet 4 .d s

/-- SET 4,E (44_extended_cb.md R243). -/
def execSet4_E (s : State) : Host.Outcome State Fault Refusal := bitSet 4 .e s

/-- SET 4,H (44_extended_cb.md R243). -/
def execSet4_H (s : State) : Host.Outcome State Fault Refusal := bitSet 4 .h s

/-- SET 4,L (44_extended_cb.md R243). -/
def execSet4_L (s : State) : Host.Outcome State Fault Refusal := bitSet 4 .l s

/-- SET 4,(HL) (44_extended_cb.md R243). -/
def execSet4_IndHL (s : State) : Host.Outcome State Fault Refusal := bitSet 4 .hlInd s

/-- SET 4,A (44_extended_cb.md R243). -/
def execSet4_A (s : State) : Host.Outcome State Fault Refusal := bitSet 4 .a s

/-- SET 5,B (44_extended_cb.md R243). -/
def execSet5_B (s : State) : Host.Outcome State Fault Refusal := bitSet 5 .b s

/-- SET 5,C (44_extended_cb.md R243). -/
def execSet5_C (s : State) : Host.Outcome State Fault Refusal := bitSet 5 .c s

/-- SET 5,D (44_extended_cb.md R243). -/
def execSet5_D (s : State) : Host.Outcome State Fault Refusal := bitSet 5 .d s

/-- SET 5,E (44_extended_cb.md R243). -/
def execSet5_E (s : State) : Host.Outcome State Fault Refusal := bitSet 5 .e s

/-- SET 5,H (44_extended_cb.md R243). -/
def execSet5_H (s : State) : Host.Outcome State Fault Refusal := bitSet 5 .h s

/-- SET 5,L (44_extended_cb.md R243). -/
def execSet5_L (s : State) : Host.Outcome State Fault Refusal := bitSet 5 .l s

/-- SET 5,(HL) (44_extended_cb.md R243). -/
def execSet5_IndHL (s : State) : Host.Outcome State Fault Refusal := bitSet 5 .hlInd s

/-- SET 5,A (44_extended_cb.md R243). -/
def execSet5_A (s : State) : Host.Outcome State Fault Refusal := bitSet 5 .a s

/-- SET 6,B (44_extended_cb.md R243). -/
def execSet6_B (s : State) : Host.Outcome State Fault Refusal := bitSet 6 .b s

/-- SET 6,C (44_extended_cb.md R243). -/
def execSet6_C (s : State) : Host.Outcome State Fault Refusal := bitSet 6 .c s

/-- SET 6,D (44_extended_cb.md R243). -/
def execSet6_D (s : State) : Host.Outcome State Fault Refusal := bitSet 6 .d s

/-- SET 6,E (44_extended_cb.md R243). -/
def execSet6_E (s : State) : Host.Outcome State Fault Refusal := bitSet 6 .e s

/-- SET 6,H (44_extended_cb.md R243). -/
def execSet6_H (s : State) : Host.Outcome State Fault Refusal := bitSet 6 .h s

/-- SET 6,L (44_extended_cb.md R243). -/
def execSet6_L (s : State) : Host.Outcome State Fault Refusal := bitSet 6 .l s

/-- SET 6,(HL) (44_extended_cb.md R243). -/
def execSet6_IndHL (s : State) : Host.Outcome State Fault Refusal := bitSet 6 .hlInd s

/-- SET 6,A (44_extended_cb.md R243). -/
def execSet6_A (s : State) : Host.Outcome State Fault Refusal := bitSet 6 .a s

/-- SET 7,B (44_extended_cb.md R243). -/
def execSet7_B (s : State) : Host.Outcome State Fault Refusal := bitSet 7 .b s

/-- SET 7,C (44_extended_cb.md R243). -/
def execSet7_C (s : State) : Host.Outcome State Fault Refusal := bitSet 7 .c s

/-- SET 7,D (44_extended_cb.md R243). -/
def execSet7_D (s : State) : Host.Outcome State Fault Refusal := bitSet 7 .d s

/-- SET 7,E (44_extended_cb.md R243). -/
def execSet7_E (s : State) : Host.Outcome State Fault Refusal := bitSet 7 .e s

/-- SET 7,H (44_extended_cb.md R243). -/
def execSet7_H (s : State) : Host.Outcome State Fault Refusal := bitSet 7 .h s

/-- SET 7,L (44_extended_cb.md R243). -/
def execSet7_L (s : State) : Host.Outcome State Fault Refusal := bitSet 7 .l s

/-- SET 7,(HL) (44_extended_cb.md R243). -/
def execSet7_IndHL (s : State) : Host.Outcome State Fault Refusal := bitSet 7 .hlInd s

/-- SET 7,A (44_extended_cb.md R243). -/
def execSet7_A (s : State) : Host.Outcome State Fault Refusal := bitSet 7 .a s

end Sys2Proof.Machine
end

