-- ==== Sys2Proof/Machine/Loads16.lean ====
section
/-! DEFINITION. The 16-bit loads and the stack instructions (42_loads16_stack.md): the shared operation of each shape, then one meaning for each instruction. -/

namespace Sys2Proof.Machine

/-- LD rr,d16 and LD SP,d16 (42_loads16_stack.md R200, R201); d16 is already fetched (log entry 7). -/
def loadPair (dst : Dest16) (d16 : Addr) (s : State) : Host.Outcome State Fault Refusal :=
  .next (s.setRegs (s.regs.setDest16 dst d16))

/-- PUSH qq (42_loads16_stack.md R204). -/
def pushPair (q : Pair) (s : State) : Host.Outcome State Fault Refusal :=
  (push (s.regs.pair q) s).outcome

/-- POP rr and POP AF (42_loads16_stack.md R205, R206). -/
def popPair (q : Pair) (s : State) : Host.Outcome State Fault Refusal :=
  ((pop s).bind fun v s => .ok () (s.setRegs (s.regs.setPair q v))).outcome

/-! ## One meaning for each instruction -/

/-- LD BC,d16 (42_loads16_stack.md R200). -/
def execLdBC_D16 (d16 : Addr) (s : State) : Host.Outcome State Fault Refusal := loadPair .bc d16 s

/-- LD DE,d16 (42_loads16_stack.md R200). -/
def execLdDE_D16 (d16 : Addr) (s : State) : Host.Outcome State Fault Refusal := loadPair .de d16 s

/-- LD HL,d16 (42_loads16_stack.md R200). -/
def execLdHL_D16 (d16 : Addr) (s : State) : Host.Outcome State Fault Refusal := loadPair .hl d16 s

/-- LD SP,d16 (42_loads16_stack.md R201). -/
def execLdSP_D16 (d16 : Addr) (s : State) : Host.Outcome State Fault Refusal := loadPair .sp d16 s

/-- POP BC (42_loads16_stack.md R205). -/
def execPopBC (s : State) : Host.Outcome State Fault Refusal := popPair .bc s

/-- PUSH BC (42_loads16_stack.md R204). -/
def execPushBC (s : State) : Host.Outcome State Fault Refusal := pushPair .bc s

/-- POP DE (42_loads16_stack.md R205). -/
def execPopDE (s : State) : Host.Outcome State Fault Refusal := popPair .de s

/-- PUSH DE (42_loads16_stack.md R204). -/
def execPushDE (s : State) : Host.Outcome State Fault Refusal := pushPair .de s

/-- POP HL (42_loads16_stack.md R205). -/
def execPopHL (s : State) : Host.Outcome State Fault Refusal := popPair .hl s

/-- PUSH HL (42_loads16_stack.md R204). -/
def execPushHL (s : State) : Host.Outcome State Fault Refusal := pushPair .hl s

/-- POP AF (42_loads16_stack.md R206). -/
def execPopAF (s : State) : Host.Outcome State Fault Refusal := popPair .af s

/-- PUSH AF (42_loads16_stack.md R204). -/
def execPushAF (s : State) : Host.Outcome State Fault Refusal := pushPair .af s

end Sys2Proof.Machine
end

