-- ==== Sys2Proof/Machine/Loads8.lean ====
section
/-! DEFINITION. The 8-bit loads and stores (40_loads_8bit.md): the shared operation of each shape, then one meaning for each instruction. -/

namespace Sys2Proof.Machine

/-- LD r[y],r[z] (40_loads_8bit.md R150). -/
def loadRank (dst src : Rank) (s : State) : Host.Outcome State Fault Refusal :=
  ((readOperand src s).bind fun v s => writeOperand dst v s).outcome

/-- LD r[y],d8 (40_loads_8bit.md R151); d8 is already fetched (log entry 7). -/
def loadImmediate (dst : Rank) (d8 : Byte) (s : State) : Host.Outcome State Fault Refusal :=
  (writeOperand dst d8 s).outcome

/-- LD (BC),A, LD (DE),A, LD (HL+),A and LD (HL-),A: HL moves only after the store (40_loads_8bit.md R152–R155). -/
def storeIndirect (m : IndMode) (s : State) : Host.Outcome State Fault Refusal :=
  let a := indirectAddr m s.regs
  ((writeByte a s.regs.a s).bind fun _ s => .ok () (s.setRegs (indirectAfter m a s.regs))).outcome

/-- LD A,(BC), LD A,(DE), LD A,(HL+) and LD A,(HL-) (40_loads_8bit.md R156–R159). -/
def loadIndirect (m : IndMode) (s : State) : Host.Outcome State Fault Refusal :=
  let a := indirectAddr m s.regs
  ((readByte a s).bind fun v s => .ok () (s.setRegs (indirectAfter m a { s.regs with a := v }))).outcome

/-- A store of A at an offset in the high-RAM page. -/
def storeHighAt (offset : Byte) (s : State) : Host.Outcome State Fault Refusal :=
  (writeByte (highAddr offset) s.regs.a s).outcome

/-- A load of A from an offset in the high-RAM page. -/
def loadHighAt (offset : Byte) (s : State) : Host.Outcome State Fault Refusal :=
  ((readByte (highAddr offset) s).bind fun v s => .ok () (s.setRegs { s.regs with a := v })).outcome

/-- LDH (a8),A (40_loads_8bit.md R160). -/
def storeHigh (a8 : Byte) (s : State) : Host.Outcome State Fault Refusal := storeHighAt a8 s

/-- LDH A,(a8) (40_loads_8bit.md R161). -/
def loadHigh (a8 : Byte) (s : State) : Host.Outcome State Fault Refusal := loadHighAt a8 s

/-- LD (C),A (40_loads_8bit.md R162). -/
def storeHighC (s : State) : Host.Outcome State Fault Refusal := storeHighAt s.regs.c s

/-- LD A,(C) (40_loads_8bit.md R163). -/
def loadHighC (s : State) : Host.Outcome State Fault Refusal := loadHighAt s.regs.c s

/-! ## One meaning for each instruction -/

/-- LD (BC),A (40_loads_8bit.md R152). -/
def execLdIndBC_A (s : State) : Host.Outcome State Fault Refusal := storeIndirect .bc s

/-- LD B,d8 (40_loads_8bit.md R151). -/
def execLdB_D8 (d8 : Byte) (s : State) : Host.Outcome State Fault Refusal := loadImmediate .b d8 s

/-- LD A,(BC) (40_loads_8bit.md R156). -/
def execLdA_IndBC (s : State) : Host.Outcome State Fault Refusal := loadIndirect .bc s

/-- LD C,d8 (40_loads_8bit.md R151). -/
def execLdC_D8 (d8 : Byte) (s : State) : Host.Outcome State Fault Refusal := loadImmediate .c d8 s

/-- LD (DE),A (40_loads_8bit.md R153). -/
def execLdIndDE_A (s : State) : Host.Outcome State Fault Refusal := storeIndirect .de s

/-- LD D,d8 (40_loads_8bit.md R151). -/
def execLdD_D8 (d8 : Byte) (s : State) : Host.Outcome State Fault Refusal := loadImmediate .d d8 s

/-- LD A,(DE) (40_loads_8bit.md R157). -/
def execLdA_IndDE (s : State) : Host.Outcome State Fault Refusal := loadIndirect .de s

/-- LD E,d8 (40_loads_8bit.md R151). -/
def execLdE_D8 (d8 : Byte) (s : State) : Host.Outcome State Fault Refusal := loadImmediate .e d8 s

/-- LD (HL+),A (40_loads_8bit.md R154). -/
def execLdIndHLInc_A (s : State) : Host.Outcome State Fault Refusal := storeIndirect .hlInc s

/-- LD H,d8 (40_loads_8bit.md R151). -/
def execLdH_D8 (d8 : Byte) (s : State) : Host.Outcome State Fault Refusal := loadImmediate .h d8 s

/-- LD A,(HL+) (40_loads_8bit.md R158). -/
def execLdA_IndHLInc (s : State) : Host.Outcome State Fault Refusal := loadIndirect .hlInc s

/-- LD L,d8 (40_loads_8bit.md R151). -/
def execLdL_D8 (d8 : Byte) (s : State) : Host.Outcome State Fault Refusal := loadImmediate .l d8 s

/-- LD (HL-),A (40_loads_8bit.md R155). -/
def execLdIndHLDec_A (s : State) : Host.Outcome State Fault Refusal := storeIndirect .hlDec s

/-- LD (HL),d8 (40_loads_8bit.md R151). -/
def execLdIndHL_D8 (d8 : Byte) (s : State) : Host.Outcome State Fault Refusal := loadImmediate .hlInd d8 s

/-- LD A,(HL-) (40_loads_8bit.md R159). -/
def execLdA_IndHLDec (s : State) : Host.Outcome State Fault Refusal := loadIndirect .hlDec s

/-- LD A,d8 (40_loads_8bit.md R151). -/
def execLdA_D8 (d8 : Byte) (s : State) : Host.Outcome State Fault Refusal := loadImmediate .a d8 s

/-- LD B,B (40_loads_8bit.md R150). -/
def execLdB_B (s : State) : Host.Outcome State Fault Refusal := loadRank .b .b s

/-- LD B,C (40_loads_8bit.md R150). -/
def execLdB_C (s : State) : Host.Outcome State Fault Refusal := loadRank .b .c s

/-- LD B,D (40_loads_8bit.md R150). -/
def execLdB_D (s : State) : Host.Outcome State Fault Refusal := loadRank .b .d s

/-- LD B,E (40_loads_8bit.md R150). -/
def execLdB_E (s : State) : Host.Outcome State Fault Refusal := loadRank .b .e s

/-- LD B,H (40_loads_8bit.md R150). -/
def execLdB_H (s : State) : Host.Outcome State Fault Refusal := loadRank .b .h s

/-- LD B,L (40_loads_8bit.md R150). -/
def execLdB_L (s : State) : Host.Outcome State Fault Refusal := loadRank .b .l s

/-- LD B,(HL) (40_loads_8bit.md R150). -/
def execLdB_IndHL (s : State) : Host.Outcome State Fault Refusal := loadRank .b .hlInd s

/-- LD B,A (40_loads_8bit.md R150). -/
def execLdB_A (s : State) : Host.Outcome State Fault Refusal := loadRank .b .a s

/-- LD C,B (40_loads_8bit.md R150). -/
def execLdC_B (s : State) : Host.Outcome State Fault Refusal := loadRank .c .b s

/-- LD C,C (40_loads_8bit.md R150). -/
def execLdC_C (s : State) : Host.Outcome State Fault Refusal := loadRank .c .c s

/-- LD C,D (40_loads_8bit.md R150). -/
def execLdC_D (s : State) : Host.Outcome State Fault Refusal := loadRank .c .d s

/-- LD C,E (40_loads_8bit.md R150). -/
def execLdC_E (s : State) : Host.Outcome State Fault Refusal := loadRank .c .e s

/-- LD C,H (40_loads_8bit.md R150). -/
def execLdC_H (s : State) : Host.Outcome State Fault Refusal := loadRank .c .h s

/-- LD C,L (40_loads_8bit.md R150). -/
def execLdC_L (s : State) : Host.Outcome State Fault Refusal := loadRank .c .l s

/-- LD C,(HL) (40_loads_8bit.md R150). -/
def execLdC_IndHL (s : State) : Host.Outcome State Fault Refusal := loadRank .c .hlInd s

/-- LD C,A (40_loads_8bit.md R150). -/
def execLdC_A (s : State) : Host.Outcome State Fault Refusal := loadRank .c .a s

/-- LD D,B (40_loads_8bit.md R150). -/
def execLdD_B (s : State) : Host.Outcome State Fault Refusal := loadRank .d .b s

/-- LD D,C (40_loads_8bit.md R150). -/
def execLdD_C (s : State) : Host.Outcome State Fault Refusal := loadRank .d .c s

/-- LD D,D (40_loads_8bit.md R150). -/
def execLdD_D (s : State) : Host.Outcome State Fault Refusal := loadRank .d .d s

/-- LD D,E (40_loads_8bit.md R150). -/
def execLdD_E (s : State) : Host.Outcome State Fault Refusal := loadRank .d .e s

/-- LD D,H (40_loads_8bit.md R150). -/
def execLdD_H (s : State) : Host.Outcome State Fault Refusal := loadRank .d .h s

/-- LD D,L (40_loads_8bit.md R150). -/
def execLdD_L (s : State) : Host.Outcome State Fault Refusal := loadRank .d .l s

/-- LD D,(HL) (40_loads_8bit.md R150). -/
def execLdD_IndHL (s : State) : Host.Outcome State Fault Refusal := loadRank .d .hlInd s

/-- LD D,A (40_loads_8bit.md R150). -/
def execLdD_A (s : State) : Host.Outcome State Fault Refusal := loadRank .d .a s

/-- LD E,B (40_loads_8bit.md R150). -/
def execLdE_B (s : State) : Host.Outcome State Fault Refusal := loadRank .e .b s

/-- LD E,C (40_loads_8bit.md R150). -/
def execLdE_C (s : State) : Host.Outcome State Fault Refusal := loadRank .e .c s

/-- LD E,D (40_loads_8bit.md R150). -/
def execLdE_D (s : State) : Host.Outcome State Fault Refusal := loadRank .e .d s

/-- LD E,E (40_loads_8bit.md R150). -/
def execLdE_E (s : State) : Host.Outcome State Fault Refusal := loadRank .e .e s

/-- LD E,H (40_loads_8bit.md R150). -/
def execLdE_H (s : State) : Host.Outcome State Fault Refusal := loadRank .e .h s

/-- LD E,L (40_loads_8bit.md R150). -/
def execLdE_L (s : State) : Host.Outcome State Fault Refusal := loadRank .e .l s

/-- LD E,(HL) (40_loads_8bit.md R150). -/
def execLdE_IndHL (s : State) : Host.Outcome State Fault Refusal := loadRank .e .hlInd s

/-- LD E,A (40_loads_8bit.md R150). -/
def execLdE_A (s : State) : Host.Outcome State Fault Refusal := loadRank .e .a s

/-- LD H,B (40_loads_8bit.md R150). -/
def execLdH_B (s : State) : Host.Outcome State Fault Refusal := loadRank .h .b s

/-- LD H,C (40_loads_8bit.md R150). -/
def execLdH_C (s : State) : Host.Outcome State Fault Refusal := loadRank .h .c s

/-- LD H,D (40_loads_8bit.md R150). -/
def execLdH_D (s : State) : Host.Outcome State Fault Refusal := loadRank .h .d s

/-- LD H,E (40_loads_8bit.md R150). -/
def execLdH_E (s : State) : Host.Outcome State Fault Refusal := loadRank .h .e s

/-- LD H,H (40_loads_8bit.md R150). -/
def execLdH_H (s : State) : Host.Outcome State Fault Refusal := loadRank .h .h s

/-- LD H,L (40_loads_8bit.md R150). -/
def execLdH_L (s : State) : Host.Outcome State Fault Refusal := loadRank .h .l s

/-- LD H,(HL) (40_loads_8bit.md R150). -/
def execLdH_IndHL (s : State) : Host.Outcome State Fault Refusal := loadRank .h .hlInd s

/-- LD H,A (40_loads_8bit.md R150). -/
def execLdH_A (s : State) : Host.Outcome State Fault Refusal := loadRank .h .a s

/-- LD L,B (40_loads_8bit.md R150). -/
def execLdL_B (s : State) : Host.Outcome State Fault Refusal := loadRank .l .b s

/-- LD L,C (40_loads_8bit.md R150). -/
def execLdL_C (s : State) : Host.Outcome State Fault Refusal := loadRank .l .c s

/-- LD L,D (40_loads_8bit.md R150). -/
def execLdL_D (s : State) : Host.Outcome State Fault Refusal := loadRank .l .d s

/-- LD L,E (40_loads_8bit.md R150). -/
def execLdL_E (s : State) : Host.Outcome State Fault Refusal := loadRank .l .e s

/-- LD L,H (40_loads_8bit.md R150). -/
def execLdL_H (s : State) : Host.Outcome State Fault Refusal := loadRank .l .h s

/-- LD L,L (40_loads_8bit.md R150). -/
def execLdL_L (s : State) : Host.Outcome State Fault Refusal := loadRank .l .l s

/-- LD L,(HL) (40_loads_8bit.md R150). -/
def execLdL_IndHL (s : State) : Host.Outcome State Fault Refusal := loadRank .l .hlInd s

/-- LD L,A (40_loads_8bit.md R150). -/
def execLdL_A (s : State) : Host.Outcome State Fault Refusal := loadRank .l .a s

/-- LD (HL),B (40_loads_8bit.md R150). -/
def execLdIndHL_B (s : State) : Host.Outcome State Fault Refusal := loadRank .hlInd .b s

/-- LD (HL),C (40_loads_8bit.md R150). -/
def execLdIndHL_C (s : State) : Host.Outcome State Fault Refusal := loadRank .hlInd .c s

/-- LD (HL),D (40_loads_8bit.md R150). -/
def execLdIndHL_D (s : State) : Host.Outcome State Fault Refusal := loadRank .hlInd .d s

/-- LD (HL),E (40_loads_8bit.md R150). -/
def execLdIndHL_E (s : State) : Host.Outcome State Fault Refusal := loadRank .hlInd .e s

/-- LD (HL),H (40_loads_8bit.md R150). -/
def execLdIndHL_H (s : State) : Host.Outcome State Fault Refusal := loadRank .hlInd .h s

/-- LD (HL),L (40_loads_8bit.md R150). -/
def execLdIndHL_L (s : State) : Host.Outcome State Fault Refusal := loadRank .hlInd .l s

/-- LD (HL),A (40_loads_8bit.md R150). -/
def execLdIndHL_A (s : State) : Host.Outcome State Fault Refusal := loadRank .hlInd .a s

/-- LD A,B (40_loads_8bit.md R150). -/
def execLdA_B (s : State) : Host.Outcome State Fault Refusal := loadRank .a .b s

/-- LD A,C (40_loads_8bit.md R150). -/
def execLdA_C (s : State) : Host.Outcome State Fault Refusal := loadRank .a .c s

/-- LD A,D (40_loads_8bit.md R150). -/
def execLdA_D (s : State) : Host.Outcome State Fault Refusal := loadRank .a .d s

/-- LD A,E (40_loads_8bit.md R150). -/
def execLdA_E (s : State) : Host.Outcome State Fault Refusal := loadRank .a .e s

/-- LD A,H (40_loads_8bit.md R150). -/
def execLdA_H (s : State) : Host.Outcome State Fault Refusal := loadRank .a .h s

/-- LD A,L (40_loads_8bit.md R150). -/
def execLdA_L (s : State) : Host.Outcome State Fault Refusal := loadRank .a .l s

/-- LD A,(HL) (40_loads_8bit.md R150). -/
def execLdA_IndHL (s : State) : Host.Outcome State Fault Refusal := loadRank .a .hlInd s

/-- LD A,A (40_loads_8bit.md R150). -/
def execLdA_A (s : State) : Host.Outcome State Fault Refusal := loadRank .a .a s

/-- LDH (a8),A (40_loads_8bit.md R160). -/
def execLdhIndA8_A (a8 : Byte) (s : State) : Host.Outcome State Fault Refusal := storeHigh a8 s

/-- LD (C),A (40_loads_8bit.md R162). -/
def execLdIndC_A (s : State) : Host.Outcome State Fault Refusal := storeHighC s

/-- LDH A,(a8) (40_loads_8bit.md R161). -/
def execLdhA_IndA8 (a8 : Byte) (s : State) : Host.Outcome State Fault Refusal := loadHigh a8 s

/-- LD A,(C) (40_loads_8bit.md R163). -/
def execLdA_IndC (s : State) : Host.Outcome State Fault Refusal := loadHighC s

end Sys2Proof.Machine
end

