-- ==== Sys2Proof/Machine/Dispatch.lean ====
section
/-! DEFINITION. The dispatch: one arm for each constructor of Instr, each one call of that instruction's meaning. The state is the one after the instruction's bytes are fetched. -/

namespace Sys2Proof.Machine

def exec (i : Instr) (s : State) : Host.Outcome State Fault Refusal :=
  match i with
  | .nop => Sys2Proof.Machine.execNop s
  | .ldBC_D16 d16 => Sys2Proof.Machine.execLdBC_D16 d16 s
  | .ldIndBC_A => Sys2Proof.Machine.execLdIndBC_A s
  | .ldB_D8 d8 => Sys2Proof.Machine.execLdB_D8 d8 s
  | .ldA_IndBC => Sys2Proof.Machine.execLdA_IndBC s
  | .ldC_D8 d8 => Sys2Proof.Machine.execLdC_D8 d8 s
  | .ldDE_D16 d16 => Sys2Proof.Machine.execLdDE_D16 d16 s
  | .ldIndDE_A => Sys2Proof.Machine.execLdIndDE_A s
  | .ldD_D8 d8 => Sys2Proof.Machine.execLdD_D8 d8 s
  | .jr e8 => Sys2Proof.Machine.execJr e8 s
  | .ldA_IndDE => Sys2Proof.Machine.execLdA_IndDE s
  | .ldE_D8 d8 => Sys2Proof.Machine.execLdE_D8 d8 s
  | .jrNZ e8 => Sys2Proof.Machine.execJrNZ e8 s
  | .ldHL_D16 d16 => Sys2Proof.Machine.execLdHL_D16 d16 s
  | .ldIndHLInc_A => Sys2Proof.Machine.execLdIndHLInc_A s
  | .ldH_D8 d8 => Sys2Proof.Machine.execLdH_D8 d8 s
  | .jrZ e8 => Sys2Proof.Machine.execJrZ e8 s
  | .ldA_IndHLInc => Sys2Proof.Machine.execLdA_IndHLInc s
  | .ldL_D8 d8 => Sys2Proof.Machine.execLdL_D8 d8 s
  | .jrNC e8 => Sys2Proof.Machine.execJrNC e8 s
  | .ldSP_D16 d16 => Sys2Proof.Machine.execLdSP_D16 d16 s
  | .ldIndHLDec_A => Sys2Proof.Machine.execLdIndHLDec_A s
  | .ldIndHL_D8 d8 => Sys2Proof.Machine.execLdIndHL_D8 d8 s
  | .jrC e8 => Sys2Proof.Machine.execJrC e8 s
  | .ldA_IndHLDec => Sys2Proof.Machine.execLdA_IndHLDec s
  | .ldA_D8 d8 => Sys2Proof.Machine.execLdA_D8 d8 s
  | .ldB_B => Sys2Proof.Machine.execLdB_B s
  | .ldB_C => Sys2Proof.Machine.execLdB_C s
  | .ldB_D => Sys2Proof.Machine.execLdB_D s
  | .ldB_E => Sys2Proof.Machine.execLdB_E s
  | .ldB_H => Sys2Proof.Machine.execLdB_H s
  | .ldB_L => Sys2Proof.Machine.execLdB_L s
  | .ldB_IndHL => Sys2Proof.Machine.execLdB_IndHL s
  | .ldB_A => Sys2Proof.Machine.execLdB_A s
  | .ldC_B => Sys2Proof.Machine.execLdC_B s
  | .ldC_C => Sys2Proof.Machine.execLdC_C s
  | .ldC_D => Sys2Proof.Machine.execLdC_D s
  | .ldC_E => Sys2Proof.Machine.execLdC_E s
  | .ldC_H => Sys2Proof.Machine.execLdC_H s
  | .ldC_L => Sys2Proof.Machine.execLdC_L s
  | .ldC_IndHL => Sys2Proof.Machine.execLdC_IndHL s
  | .ldC_A => Sys2Proof.Machine.execLdC_A s
  | .ldD_B => Sys2Proof.Machine.execLdD_B s
  | .ldD_C => Sys2Proof.Machine.execLdD_C s
  | .ldD_D => Sys2Proof.Machine.execLdD_D s
  | .ldD_E => Sys2Proof.Machine.execLdD_E s
  | .ldD_H => Sys2Proof.Machine.execLdD_H s
  | .ldD_L => Sys2Proof.Machine.execLdD_L s
  | .ldD_IndHL => Sys2Proof.Machine.execLdD_IndHL s
  | .ldD_A => Sys2Proof.Machine.execLdD_A s
  | .ldE_B => Sys2Proof.Machine.execLdE_B s
  | .ldE_C => Sys2Proof.Machine.execLdE_C s
  | .ldE_D => Sys2Proof.Machine.execLdE_D s
  | .ldE_E => Sys2Proof.Machine.execLdE_E s
  | .ldE_H => Sys2Proof.Machine.execLdE_H s
  | .ldE_L => Sys2Proof.Machine.execLdE_L s
  | .ldE_IndHL => Sys2Proof.Machine.execLdE_IndHL s
  | .ldE_A => Sys2Proof.Machine.execLdE_A s
  | .ldH_B => Sys2Proof.Machine.execLdH_B s
  | .ldH_C => Sys2Proof.Machine.execLdH_C s
  | .ldH_D => Sys2Proof.Machine.execLdH_D s
  | .ldH_E => Sys2Proof.Machine.execLdH_E s
  | .ldH_H => Sys2Proof.Machine.execLdH_H s
  | .ldH_L => Sys2Proof.Machine.execLdH_L s
  | .ldH_IndHL => Sys2Proof.Machine.execLdH_IndHL s
  | .ldH_A => Sys2Proof.Machine.execLdH_A s
  | .ldL_B => Sys2Proof.Machine.execLdL_B s
  | .ldL_C => Sys2Proof.Machine.execLdL_C s
  | .ldL_D => Sys2Proof.Machine.execLdL_D s
  | .ldL_E => Sys2Proof.Machine.execLdL_E s
  | .ldL_H => Sys2Proof.Machine.execLdL_H s
  | .ldL_L => Sys2Proof.Machine.execLdL_L s
  | .ldL_IndHL => Sys2Proof.Machine.execLdL_IndHL s
  | .ldL_A => Sys2Proof.Machine.execLdL_A s
  | .ldIndHL_B => Sys2Proof.Machine.execLdIndHL_B s
  | .ldIndHL_C => Sys2Proof.Machine.execLdIndHL_C s
  | .ldIndHL_D => Sys2Proof.Machine.execLdIndHL_D s
  | .ldIndHL_E => Sys2Proof.Machine.execLdIndHL_E s
  | .ldIndHL_H => Sys2Proof.Machine.execLdIndHL_H s
  | .ldIndHL_L => Sys2Proof.Machine.execLdIndHL_L s
  | .halt => Sys2Proof.Machine.execHalt s
  | .ldIndHL_A => Sys2Proof.Machine.execLdIndHL_A s
  | .ldA_B => Sys2Proof.Machine.execLdA_B s
  | .ldA_C => Sys2Proof.Machine.execLdA_C s
  | .ldA_D => Sys2Proof.Machine.execLdA_D s
  | .ldA_E => Sys2Proof.Machine.execLdA_E s
  | .ldA_H => Sys2Proof.Machine.execLdA_H s
  | .ldA_L => Sys2Proof.Machine.execLdA_L s
  | .ldA_IndHL => Sys2Proof.Machine.execLdA_IndHL s
  | .ldA_A => Sys2Proof.Machine.execLdA_A s
  | .addA_B => Sys2Proof.Machine.execAddA_B s
  | .addA_C => Sys2Proof.Machine.execAddA_C s
  | .addA_D => Sys2Proof.Machine.execAddA_D s
  | .addA_E => Sys2Proof.Machine.execAddA_E s
  | .addA_H => Sys2Proof.Machine.execAddA_H s
  | .addA_L => Sys2Proof.Machine.execAddA_L s
  | .addA_IndHL => Sys2Proof.Machine.execAddA_IndHL s
  | .addA_A => Sys2Proof.Machine.execAddA_A s
  | .adcA_B => Sys2Proof.Machine.execAdcA_B s
  | .adcA_C => Sys2Proof.Machine.execAdcA_C s
  | .adcA_D => Sys2Proof.Machine.execAdcA_D s
  | .adcA_E => Sys2Proof.Machine.execAdcA_E s
  | .adcA_H => Sys2Proof.Machine.execAdcA_H s
  | .adcA_L => Sys2Proof.Machine.execAdcA_L s
  | .adcA_IndHL => Sys2Proof.Machine.execAdcA_IndHL s
  | .adcA_A => Sys2Proof.Machine.execAdcA_A s
  | .sub_B => Sys2Proof.Machine.execSub_B s
  | .sub_C => Sys2Proof.Machine.execSub_C s
  | .sub_D => Sys2Proof.Machine.execSub_D s
  | .sub_E => Sys2Proof.Machine.execSub_E s
  | .sub_H => Sys2Proof.Machine.execSub_H s
  | .sub_L => Sys2Proof.Machine.execSub_L s
  | .sub_IndHL => Sys2Proof.Machine.execSub_IndHL s
  | .sub_A => Sys2Proof.Machine.execSub_A s
  | .sbcA_B => Sys2Proof.Machine.execSbcA_B s
  | .sbcA_C => Sys2Proof.Machine.execSbcA_C s
  | .sbcA_D => Sys2Proof.Machine.execSbcA_D s
  | .sbcA_E => Sys2Proof.Machine.execSbcA_E s
  | .sbcA_H => Sys2Proof.Machine.execSbcA_H s
  | .sbcA_L => Sys2Proof.Machine.execSbcA_L s
  | .sbcA_IndHL => Sys2Proof.Machine.execSbcA_IndHL s
  | .sbcA_A => Sys2Proof.Machine.execSbcA_A s
  | .and_B => Sys2Proof.Machine.execAnd_B s
  | .and_C => Sys2Proof.Machine.execAnd_C s
  | .and_D => Sys2Proof.Machine.execAnd_D s
  | .and_E => Sys2Proof.Machine.execAnd_E s
  | .and_H => Sys2Proof.Machine.execAnd_H s
  | .and_L => Sys2Proof.Machine.execAnd_L s
  | .and_IndHL => Sys2Proof.Machine.execAnd_IndHL s
  | .and_A => Sys2Proof.Machine.execAnd_A s
  | .xor_B => Sys2Proof.Machine.execXor_B s
  | .xor_C => Sys2Proof.Machine.execXor_C s
  | .xor_D => Sys2Proof.Machine.execXor_D s
  | .xor_E => Sys2Proof.Machine.execXor_E s
  | .xor_H => Sys2Proof.Machine.execXor_H s
  | .xor_L => Sys2Proof.Machine.execXor_L s
  | .xor_IndHL => Sys2Proof.Machine.execXor_IndHL s
  | .xor_A => Sys2Proof.Machine.execXor_A s
  | .or_B => Sys2Proof.Machine.execOr_B s
  | .or_C => Sys2Proof.Machine.execOr_C s
  | .or_D => Sys2Proof.Machine.execOr_D s
  | .or_E => Sys2Proof.Machine.execOr_E s
  | .or_H => Sys2Proof.Machine.execOr_H s
  | .or_L => Sys2Proof.Machine.execOr_L s
  | .or_IndHL => Sys2Proof.Machine.execOr_IndHL s
  | .or_A => Sys2Proof.Machine.execOr_A s
  | .cp_B => Sys2Proof.Machine.execCp_B s
  | .cp_C => Sys2Proof.Machine.execCp_C s
  | .cp_D => Sys2Proof.Machine.execCp_D s
  | .cp_E => Sys2Proof.Machine.execCp_E s
  | .cp_H => Sys2Proof.Machine.execCp_H s
  | .cp_L => Sys2Proof.Machine.execCp_L s
  | .cp_IndHL => Sys2Proof.Machine.execCp_IndHL s
  | .cp_A => Sys2Proof.Machine.execCp_A s
  | .popBC => Sys2Proof.Machine.execPopBC s
  | .pushBC => Sys2Proof.Machine.execPushBC s
  | .ret => Sys2Proof.Machine.execRet s
  | .call a16 => Sys2Proof.Machine.execCall a16 s
  | .popDE => Sys2Proof.Machine.execPopDE s
  | .pushDE => Sys2Proof.Machine.execPushDE s
  | .ldhIndA8_A a8 => Sys2Proof.Machine.execLdhIndA8_A a8 s
  | .popHL => Sys2Proof.Machine.execPopHL s
  | .ldIndC_A => Sys2Proof.Machine.execLdIndC_A s
  | .pushHL => Sys2Proof.Machine.execPushHL s
  | .ldhA_IndA8 a8 => Sys2Proof.Machine.execLdhA_IndA8 a8 s
  | .popAF => Sys2Proof.Machine.execPopAF s
  | .ldA_IndC => Sys2Proof.Machine.execLdA_IndC s
  | .pushAF => Sys2Proof.Machine.execPushAF s
  | .bit0_B => Sys2Proof.Machine.execBit0_B s
  | .bit0_C => Sys2Proof.Machine.execBit0_C s
  | .bit0_D => Sys2Proof.Machine.execBit0_D s
  | .bit0_E => Sys2Proof.Machine.execBit0_E s
  | .bit0_H => Sys2Proof.Machine.execBit0_H s
  | .bit0_L => Sys2Proof.Machine.execBit0_L s
  | .bit0_IndHL => Sys2Proof.Machine.execBit0_IndHL s
  | .bit0_A => Sys2Proof.Machine.execBit0_A s
  | .bit1_B => Sys2Proof.Machine.execBit1_B s
  | .bit1_C => Sys2Proof.Machine.execBit1_C s
  | .bit1_D => Sys2Proof.Machine.execBit1_D s
  | .bit1_E => Sys2Proof.Machine.execBit1_E s
  | .bit1_H => Sys2Proof.Machine.execBit1_H s
  | .bit1_L => Sys2Proof.Machine.execBit1_L s
  | .bit1_IndHL => Sys2Proof.Machine.execBit1_IndHL s
  | .bit1_A => Sys2Proof.Machine.execBit1_A s
  | .bit2_B => Sys2Proof.Machine.execBit2_B s
  | .bit2_C => Sys2Proof.Machine.execBit2_C s
  | .bit2_D => Sys2Proof.Machine.execBit2_D s
  | .bit2_E => Sys2Proof.Machine.execBit2_E s
  | .bit2_H => Sys2Proof.Machine.execBit2_H s
  | .bit2_L => Sys2Proof.Machine.execBit2_L s
  | .bit2_IndHL => Sys2Proof.Machine.execBit2_IndHL s
  | .bit2_A => Sys2Proof.Machine.execBit2_A s
  | .bit3_B => Sys2Proof.Machine.execBit3_B s
  | .bit3_C => Sys2Proof.Machine.execBit3_C s
  | .bit3_D => Sys2Proof.Machine.execBit3_D s
  | .bit3_E => Sys2Proof.Machine.execBit3_E s
  | .bit3_H => Sys2Proof.Machine.execBit3_H s
  | .bit3_L => Sys2Proof.Machine.execBit3_L s
  | .bit3_IndHL => Sys2Proof.Machine.execBit3_IndHL s
  | .bit3_A => Sys2Proof.Machine.execBit3_A s
  | .bit4_B => Sys2Proof.Machine.execBit4_B s
  | .bit4_C => Sys2Proof.Machine.execBit4_C s
  | .bit4_D => Sys2Proof.Machine.execBit4_D s
  | .bit4_E => Sys2Proof.Machine.execBit4_E s
  | .bit4_H => Sys2Proof.Machine.execBit4_H s
  | .bit4_L => Sys2Proof.Machine.execBit4_L s
  | .bit4_IndHL => Sys2Proof.Machine.execBit4_IndHL s
  | .bit4_A => Sys2Proof.Machine.execBit4_A s
  | .bit5_B => Sys2Proof.Machine.execBit5_B s
  | .bit5_C => Sys2Proof.Machine.execBit5_C s
  | .bit5_D => Sys2Proof.Machine.execBit5_D s
  | .bit5_E => Sys2Proof.Machine.execBit5_E s
  | .bit5_H => Sys2Proof.Machine.execBit5_H s
  | .bit5_L => Sys2Proof.Machine.execBit5_L s
  | .bit5_IndHL => Sys2Proof.Machine.execBit5_IndHL s
  | .bit5_A => Sys2Proof.Machine.execBit5_A s
  | .bit6_B => Sys2Proof.Machine.execBit6_B s
  | .bit6_C => Sys2Proof.Machine.execBit6_C s
  | .bit6_D => Sys2Proof.Machine.execBit6_D s
  | .bit6_E => Sys2Proof.Machine.execBit6_E s
  | .bit6_H => Sys2Proof.Machine.execBit6_H s
  | .bit6_L => Sys2Proof.Machine.execBit6_L s
  | .bit6_IndHL => Sys2Proof.Machine.execBit6_IndHL s
  | .bit6_A => Sys2Proof.Machine.execBit6_A s
  | .bit7_B => Sys2Proof.Machine.execBit7_B s
  | .bit7_C => Sys2Proof.Machine.execBit7_C s
  | .bit7_D => Sys2Proof.Machine.execBit7_D s
  | .bit7_E => Sys2Proof.Machine.execBit7_E s
  | .bit7_H => Sys2Proof.Machine.execBit7_H s
  | .bit7_L => Sys2Proof.Machine.execBit7_L s
  | .bit7_IndHL => Sys2Proof.Machine.execBit7_IndHL s
  | .bit7_A => Sys2Proof.Machine.execBit7_A s
  | .res0_B => Sys2Proof.Machine.execRes0_B s
  | .res0_C => Sys2Proof.Machine.execRes0_C s
  | .res0_D => Sys2Proof.Machine.execRes0_D s
  | .res0_E => Sys2Proof.Machine.execRes0_E s
  | .res0_H => Sys2Proof.Machine.execRes0_H s
  | .res0_L => Sys2Proof.Machine.execRes0_L s
  | .res0_IndHL => Sys2Proof.Machine.execRes0_IndHL s
  | .res0_A => Sys2Proof.Machine.execRes0_A s
  | .res1_B => Sys2Proof.Machine.execRes1_B s
  | .res1_C => Sys2Proof.Machine.execRes1_C s
  | .res1_D => Sys2Proof.Machine.execRes1_D s
  | .res1_E => Sys2Proof.Machine.execRes1_E s
  | .res1_H => Sys2Proof.Machine.execRes1_H s
  | .res1_L => Sys2Proof.Machine.execRes1_L s
  | .res1_IndHL => Sys2Proof.Machine.execRes1_IndHL s
  | .res1_A => Sys2Proof.Machine.execRes1_A s
  | .res2_B => Sys2Proof.Machine.execRes2_B s
  | .res2_C => Sys2Proof.Machine.execRes2_C s
  | .res2_D => Sys2Proof.Machine.execRes2_D s
  | .res2_E => Sys2Proof.Machine.execRes2_E s
  | .res2_H => Sys2Proof.Machine.execRes2_H s
  | .res2_L => Sys2Proof.Machine.execRes2_L s
  | .res2_IndHL => Sys2Proof.Machine.execRes2_IndHL s
  | .res2_A => Sys2Proof.Machine.execRes2_A s
  | .res3_B => Sys2Proof.Machine.execRes3_B s
  | .res3_C => Sys2Proof.Machine.execRes3_C s
  | .res3_D => Sys2Proof.Machine.execRes3_D s
  | .res3_E => Sys2Proof.Machine.execRes3_E s
  | .res3_H => Sys2Proof.Machine.execRes3_H s
  | .res3_L => Sys2Proof.Machine.execRes3_L s
  | .res3_IndHL => Sys2Proof.Machine.execRes3_IndHL s
  | .res3_A => Sys2Proof.Machine.execRes3_A s
  | .res4_B => Sys2Proof.Machine.execRes4_B s
  | .res4_C => Sys2Proof.Machine.execRes4_C s
  | .res4_D => Sys2Proof.Machine.execRes4_D s
  | .res4_E => Sys2Proof.Machine.execRes4_E s
  | .res4_H => Sys2Proof.Machine.execRes4_H s
  | .res4_L => Sys2Proof.Machine.execRes4_L s
  | .res4_IndHL => Sys2Proof.Machine.execRes4_IndHL s
  | .res4_A => Sys2Proof.Machine.execRes4_A s
  | .res5_B => Sys2Proof.Machine.execRes5_B s
  | .res5_C => Sys2Proof.Machine.execRes5_C s
  | .res5_D => Sys2Proof.Machine.execRes5_D s
  | .res5_E => Sys2Proof.Machine.execRes5_E s
  | .res5_H => Sys2Proof.Machine.execRes5_H s
  | .res5_L => Sys2Proof.Machine.execRes5_L s
  | .res5_IndHL => Sys2Proof.Machine.execRes5_IndHL s
  | .res5_A => Sys2Proof.Machine.execRes5_A s
  | .res6_B => Sys2Proof.Machine.execRes6_B s
  | .res6_C => Sys2Proof.Machine.execRes6_C s
  | .res6_D => Sys2Proof.Machine.execRes6_D s
  | .res6_E => Sys2Proof.Machine.execRes6_E s
  | .res6_H => Sys2Proof.Machine.execRes6_H s
  | .res6_L => Sys2Proof.Machine.execRes6_L s
  | .res6_IndHL => Sys2Proof.Machine.execRes6_IndHL s
  | .res6_A => Sys2Proof.Machine.execRes6_A s
  | .res7_B => Sys2Proof.Machine.execRes7_B s
  | .res7_C => Sys2Proof.Machine.execRes7_C s
  | .res7_D => Sys2Proof.Machine.execRes7_D s
  | .res7_E => Sys2Proof.Machine.execRes7_E s
  | .res7_H => Sys2Proof.Machine.execRes7_H s
  | .res7_L => Sys2Proof.Machine.execRes7_L s
  | .res7_IndHL => Sys2Proof.Machine.execRes7_IndHL s
  | .res7_A => Sys2Proof.Machine.execRes7_A s
  | .set0_B => Sys2Proof.Machine.execSet0_B s
  | .set0_C => Sys2Proof.Machine.execSet0_C s
  | .set0_D => Sys2Proof.Machine.execSet0_D s
  | .set0_E => Sys2Proof.Machine.execSet0_E s
  | .set0_H => Sys2Proof.Machine.execSet0_H s
  | .set0_L => Sys2Proof.Machine.execSet0_L s
  | .set0_IndHL => Sys2Proof.Machine.execSet0_IndHL s
  | .set0_A => Sys2Proof.Machine.execSet0_A s
  | .set1_B => Sys2Proof.Machine.execSet1_B s
  | .set1_C => Sys2Proof.Machine.execSet1_C s
  | .set1_D => Sys2Proof.Machine.execSet1_D s
  | .set1_E => Sys2Proof.Machine.execSet1_E s
  | .set1_H => Sys2Proof.Machine.execSet1_H s
  | .set1_L => Sys2Proof.Machine.execSet1_L s
  | .set1_IndHL => Sys2Proof.Machine.execSet1_IndHL s
  | .set1_A => Sys2Proof.Machine.execSet1_A s
  | .set2_B => Sys2Proof.Machine.execSet2_B s
  | .set2_C => Sys2Proof.Machine.execSet2_C s
  | .set2_D => Sys2Proof.Machine.execSet2_D s
  | .set2_E => Sys2Proof.Machine.execSet2_E s
  | .set2_H => Sys2Proof.Machine.execSet2_H s
  | .set2_L => Sys2Proof.Machine.execSet2_L s
  | .set2_IndHL => Sys2Proof.Machine.execSet2_IndHL s
  | .set2_A => Sys2Proof.Machine.execSet2_A s
  | .set3_B => Sys2Proof.Machine.execSet3_B s
  | .set3_C => Sys2Proof.Machine.execSet3_C s
  | .set3_D => Sys2Proof.Machine.execSet3_D s
  | .set3_E => Sys2Proof.Machine.execSet3_E s
  | .set3_H => Sys2Proof.Machine.execSet3_H s
  | .set3_L => Sys2Proof.Machine.execSet3_L s
  | .set3_IndHL => Sys2Proof.Machine.execSet3_IndHL s
  | .set3_A => Sys2Proof.Machine.execSet3_A s
  | .set4_B => Sys2Proof.Machine.execSet4_B s
  | .set4_C => Sys2Proof.Machine.execSet4_C s
  | .set4_D => Sys2Proof.Machine.execSet4_D s
  | .set4_E => Sys2Proof.Machine.execSet4_E s
  | .set4_H => Sys2Proof.Machine.execSet4_H s
  | .set4_L => Sys2Proof.Machine.execSet4_L s
  | .set4_IndHL => Sys2Proof.Machine.execSet4_IndHL s
  | .set4_A => Sys2Proof.Machine.execSet4_A s
  | .set5_B => Sys2Proof.Machine.execSet5_B s
  | .set5_C => Sys2Proof.Machine.execSet5_C s
  | .set5_D => Sys2Proof.Machine.execSet5_D s
  | .set5_E => Sys2Proof.Machine.execSet5_E s
  | .set5_H => Sys2Proof.Machine.execSet5_H s
  | .set5_L => Sys2Proof.Machine.execSet5_L s
  | .set5_IndHL => Sys2Proof.Machine.execSet5_IndHL s
  | .set5_A => Sys2Proof.Machine.execSet5_A s
  | .set6_B => Sys2Proof.Machine.execSet6_B s
  | .set6_C => Sys2Proof.Machine.execSet6_C s
  | .set6_D => Sys2Proof.Machine.execSet6_D s
  | .set6_E => Sys2Proof.Machine.execSet6_E s
  | .set6_H => Sys2Proof.Machine.execSet6_H s
  | .set6_L => Sys2Proof.Machine.execSet6_L s
  | .set6_IndHL => Sys2Proof.Machine.execSet6_IndHL s
  | .set6_A => Sys2Proof.Machine.execSet6_A s
  | .set7_B => Sys2Proof.Machine.execSet7_B s
  | .set7_C => Sys2Proof.Machine.execSet7_C s
  | .set7_D => Sys2Proof.Machine.execSet7_D s
  | .set7_E => Sys2Proof.Machine.execSet7_E s
  | .set7_H => Sys2Proof.Machine.execSet7_H s
  | .set7_L => Sys2Proof.Machine.execSet7_L s
  | .set7_IndHL => Sys2Proof.Machine.execSet7_IndHL s
  | .set7_A => Sys2Proof.Machine.execSet7_A s

end Sys2Proof.Machine
end

