-- ==== Sys2Proof/Machine/Fetch.lean ====
section
/-! DEFINITION. Fetching an instruction's bytes one at a time and decoding them (00_scope.md R11; 30_encoding.md R120, R122), and placing an instruction where the next fetch reads it. -/

namespace Sys2Proof.Machine

/-- Fetch up to `fuel` more bytes after the bytes `got`, stopping as soon as they decode or cannot.
A fetch fault or a decode fault leaves PC past the bytes fetched (60_exceptions.md R262, R268, R269). -/
def fetchMore : Nat → List Byte → State → Result Instr
  | 0, got, s => .fault (.unknownOpcode got) s
  | fuel + 1, got, s =>
    (fetch8 s).bind fun v s =>
      match decode s.params (got ++ [v]) with
      | .ok (i, _) => .ok i s
      | .error (.unknownOpcode bytes) => .fault (.unknownOpcode bytes) s
      | .error .truncated => fetchMore fuel (got ++ [v]) s

/-- Fetch and decode one instruction, at most 3 bytes (30_encoding.md R120): the opcode, and the operand
bytes that the opcode asks for, all before the instruction's own effects (log entry 7). -/
def fetchInstr (s : State) : Result Instr := fetchMore 3 [] s

/-- Execute a fetched instruction, or take the fault of its fetch. -/
def runFetched (r : Result Instr) : Host.Outcome State Fault Refusal :=
  match r with
  | .ok i s => exec i s
  | .fault f s => .next (takeFault f s)

/-! ## Placing an instruction: a program loaded from outside the machine (log entries 3 and 10) -/

/-- An image with the byte `v` at an index, lengthened where it ends before it. -/
def placeInImage (img : Image) (index : Nat) (v : Byte) : Image :=
  { size := max img.size (index + 1), cells := Memory.write img.cells index v }

/-- The controller with the byte that a read of `a` returns set to `v`. -/
def placeInCart (c : Cart) (a : Addr) (v : Byte) : Cart :=
  match c with
  | .noController rom =>
    if a.toNat < 0x8000 then .noController (placeInImage rom a.toNat v) else c
  | .switchableBank m =>
    if a.toNat < 0x4000 then .switchableBank { m with rom := placeInImage m.rom a.toNat v }
    else if a.toNat < 0x8000 then .switchableBank { m with rom := placeInImage m.rom (m.romIndex a) v }
    else .switchableBank { m with ram := m.ram.write (m.ramIndex a) v }

/-- The state with the byte that a read of `a` returns set to `v`; no mirror and no register changes. -/
def placeByte (a : Addr) (v : Byte) (s : State) : State :=
  match route a with
  | .cart => { s with cart := placeInCart s.cart a v }
  | .echo | .wram | .flat => { s with flat := s.flat.write a.toNat v }

/-- The state with bytes placed at rising addresses from `a` on. -/
def placeBytes (a : Addr) : List Byte → State → State
  | [], s => s
  | v :: rest, s => placeBytes (a + 1) rest (placeByte a v s)

/-- Whether a byte placed at `a` can be read back: a NoController has nothing behind 0xA000–0xBFFF (20_memory.md R77). -/
def placeable (c : Cart) (a : Addr) : Bool :=
  match c with
  | .noController _ => decide (a.toNat < 0xA000) || decide (0xBFFF < a.toNat)
  | .switchableBank _ => true

/-- Where the next instruction is placed and fetched: at PC, or at 0x0000 where nothing can stand at PC. -/
def placePoint (s : State) : Addr :=
  if placeable s.cart s.regs.pc && placeable s.cart (s.regs.pc + 1) && placeable s.cart (s.regs.pc + 2) then s.regs.pc
  else 0x0000

/-- The state ready to fetch the given bytes in its next step. -/
def placeInstr (bytes : List Byte) (s : State) : State :=
  let a := placePoint s
  { placeBytes a bytes (s.setPc a) with status := .running }

end Sys2Proof.Machine
end

