-- ==== Sys2Proof/Machine/Step.lean ====
section
/-! DEFINITION. One step of the machine (43_control.md R230). -/

namespace Sys2Proof.Machine

/-- One step: from `Running`, fetch, decode and execute one instruction (43_control.md R230);
from `Halted` or `Faulted`, nothing at all (60_exceptions.md R276, R277). -/
def step (s : State) : Host.Outcome State Fault Refusal :=
  match s.status with
  | .running => runFetched (fetchInstr s)
  | .halted => .next s
  | .faulted _ => .next s

/-- The state with an instruction of the opcode table stored where the next step fetches it (log entries 9 and 10). -/
def State.withFetchWord (s : State) (nbits w : Nat) : State := placeInstr (tableBytes nbits w) s

end Sys2Proof.Machine
end

