-- ==== Sys2Proof/WellFormed.lean ====
section
/-! DEFINITION. Well-formedness of what a Console is given: the parameters, the instructions they admit, and the image. Operands need no check, since their types hold exactly the encodable values. -/

namespace Sys2Proof

/-- The 168 primary opcodes of 30_encoding.md R134, without the prefix 0xCB, as the rule lists them. -/
def primaryTable : List Nat :=
  [0x00, 0x01, 0x02, 0x06, 0x0A, 0x0E, 0x11, 0x12, 0x16, 0x18, 0x1A, 0x1E, 0x20, 0x21, 0x22, 0x26,
   0x28, 0x2A, 0x2E, 0x30, 0x31, 0x32, 0x36, 0x38, 0x3A, 0x3E]
  ++ List.range' 0x40 0x40 ++ List.range' 0x80 0x40
  ++ [0xC1, 0xC5, 0xC9, 0xCD, 0xD1, 0xD5, 0xE0, 0xE1, 0xE2, 0xE5, 0xF0, 0xF1, 0xF2, 0xF5]

/-- `ADMITTED_PRIMARY` may only remove opcodes of the primary table (00_scope.md R7; 30_encoding.md R141). -/
def Params.wf (p : Params) : Bool :=
  p.removedPrimary.all fun op => primaryTable.contains op.toNat

/-- An instruction is well-formed under parameters that admit its opcode (30_encoding.md R141). -/
def Instr.wf (p : Params) (i : Instr) : Bool := p.admits i.opcode

end Sys2Proof
end

