-- ==== Sys2Proof/Safety.lean ====
section
/-! DEFINITION. The terms that claims use: legal states, safe runs, the bytes at an address, an operand's value, and the addresses an instruction stores to. -/

namespace Sys2Proof.Machine

/-! ## Legal states -/

/-- The addresses whose cells the flat array holds (10_state.md R35). -/
def isFlatAddr (a : Nat) : Bool :=
  (decide (0x8000 ≤ a) && decide (a ≤ 0x9FFF)) || (decide (0xC000 ≤ a) && decide (a ≤ 0xFFFF))

/-- A bank controller as construction and the bank-register rules leave it:
10_state.md R37 (the NoController's 32 KiB), R38 (the 32 KiB RAM) and R39 (the ROM bank's low five bits are not 0);
20_memory.md R96 (an image reaches past the type byte). -/
def Cart.legal (c : Cart) : Bool :=
  match c with
  | .noController rom => rom.wf && decide (0x147 < rom.size) && decide (rom.size ≤ 0x8000)
  | .switchableBank m =>
    m.rom.wf && decide (0x147 < m.rom.size) && m.ram.wf
      && Memory.keysAll (fun k => decide (k < 0x8000)) m.ram && m.romBank.extractLsb' 0 5 != 0

/-- A fault that a step can record: load-time faults are construction's (60_exceptions.md R267), and no
instruction raises `InvalidRank` (R265). -/
def Fault.ofAStep (f : Fault) : Bool :=
  match f with
  | .unsupportedCartridge _ | .imageTooShort _ | .invalidRank _ => false
  | .unknownOpcode _ | .writeToRom _ _ | .cartRamWriteDisabled _ _ | .imageBounds _ _ => true

/-- A status that construction or a step can leave. -/
def Status.legal (x : Status) : Bool :=
  match x with
  | .running | .halted => true
  | .faulted f => f.ofAStep

/-- The invariant of reachable states. -/
structure State.Inv (s : State) : Prop where
  /-- The low nibble of F is zero (10_state.md R29). -/
  lowNibble : s.regs.f &&& 0x0F = 0
  /-- The flat array is canonical and holds only its own addresses (10_state.md R35). -/
  flat : (s.flat.wf && Memory.keysAll isFlatAddr s.flat) = true
  /-- The bank controller is legal (10_state.md R37–R39). -/
  cart : s.cart.legal = true
  /-- The status is one that a step can leave (60_exceptions.md R261, R265, R267). -/
  status : s.status.legal = true

/-- The image bytes that back the ROM (10_state.md R37, R38). -/
def Cart.rom (c : Cart) : Image :=
  match c with
  | .noController rom => rom
  | .switchableBank m => m.rom

/-- The cartridge RAM bytes, none without RAM (10_state.md R37, R38). -/
def Cart.ram (c : Cart) : Memory :=
  match c with
  | .noController _ => []
  | .switchableBank m => m.ram

/-- The controller with other cartridge RAM bytes; without RAM, the same controller (10_state.md R37, R38). -/
def Cart.withRam (ram : Memory) (c : Cart) : Cart :=
  match c with
  | .noController rom => .noController rom
  | .switchableBank m => .switchableBank { m with ram := ram }

/-- Which variant a controller is (10_state.md R36). -/
def Cart.isSwitchable (c : Cart) : Bool :=
  match c with
  | .noController _ => false
  | .switchableBank _ => true

/-! ## Safe runs -/

/-- The status records a fault. -/
def Status.isFaulted (x : Status) : Bool :=
  match x with
  | .running | .halted => false
  | .faulted _ => true

/-- A run of `n` steps that answers a next state without a fault (60_exceptions.md R260). -/
def SafeRun (n : Nat) (s : State) : Prop :=
  ∃ t, core.run n s = .next t ∧ t.status.isFaulted = false

/-! ## What claims speak of -/

/-- The state with `n` more hook calls counted (10_state.md R45). -/
def addHooks (n : Nat) (s : State) : State := { s with ticks := s.ticks + n }

/-- The bytes read from an address on, by the router's pure read. -/
def bytesAt (a : Addr) : List Byte → State → Prop
  | [], _ => True
  | v :: rest, s => routerRead a s = .ok v ∧ bytesAt (a + 1) rest s

/-- The value of a rank's operand, by the router's pure read for (HL) (10_state.md R24–R26). -/
def operandValue (r : Rank) (s : State) : Except Fault Byte :=
  match r with
  | .b => .ok s.regs.b
  | .c => .ok s.regs.c
  | .d => .ok s.regs.d
  | .e => .ok s.regs.e
  | .h => .ok s.regs.h
  | .l => .ok s.regs.l
  | .a => .ok s.regs.a
  | .hlInd => routerRead s.regs.hl s

/-- The hook calls of one access to a rank's operand (10_state.md R25, R26). -/
def operandHooks (r : Rank) : Nat :=
  match r with
  | .hlInd => 1
  | .b | .c | .d | .e | .h | .l | .a => 0

/-- The registers with the register of a rank replaced; (HL) is no register (10_state.md R26). -/
def Regs.withRank (r : Rank) (v : Byte) (g : Regs) : Regs :=
  match r with
  | .b => { g with b := v }
  | .c => { g with c := v }
  | .d => { g with d := v }
  | .e => { g with e := v }
  | .h => { g with h := v }
  | .l => { g with l := v }
  | .a => { g with a := v }
  | .hlInd => g

/-- The addresses an instruction stores to, by the expressions its meaning uses, in store order. -/
def storeTargets (f : Form) (s : State) : List Addr :=
  match f with
  | .ld .hlInd _ | .ldImm .hlInd _ | .res _ .hlInd | .set _ .hlInd => [s.regs.hl]
  | .storeInd m => [indirectAddr m s.regs]
  | .storeHigh a8 => [highAddr a8]
  | .storeHighC => [highAddr s.regs.c]
  | .push _ | .call _ => [s.regs.sp - 2, s.regs.sp - 2 + 1]
  | .nop | .halt | .ld _ _ | .ldImm _ _ | .loadInd _ | .loadHigh _ | .loadHighC | .alu _ _ | .ldPair _ _ | .pop _
  | .jr _ | .jrCond _ _ | .ret | .bit _ _ | .res _ _ | .set _ _ => []

/-- The instructions that write F: the ALU block, BIT and POP AF (10_state.md R30). -/
def writesF (f : Form) : Bool :=
  match f with
  | .alu _ _ | .bit _ _ | .pop .af => true
  | .nop | .halt | .ld _ _ | .ldImm _ _ | .storeInd _ | .loadInd _ | .storeHigh _ | .loadHigh _ | .storeHighC
  | .loadHighC | .ldPair _ _ | .push _ | .pop _ | .jr _ | .jrCond _ _ | .call _ | .ret | .res _ _ | .set _ _ => false

/-- The instructions that write SP: LD SP,d16, every push and every pop (10_state.md R32). -/
def writesSp (f : Form) : Bool :=
  match f with
  | .ldPair .sp _ | .push _ | .pop _ | .call _ | .ret => true
  | .nop | .halt | .ld _ _ | .ldImm _ _ | .storeInd _ | .loadInd _ | .storeHigh _ | .loadHigh _ | .storeHighC
  | .loadHighC | .alu _ _ | .ldPair _ _ | .jr _ | .jrCond _ _ | .bit _ _ | .res _ _ | .set _ _ => false

/-- The instructions that write PC beyond its advance by fetching: JR, CALL, RET (10_state.md R33). -/
def writesPc (f : Form) : Bool :=
  match f with
  | .jr _ | .jrCond _ _ | .call _ | .ret => true
  | .nop | .halt | .ld _ _ | .ldImm _ _ | .storeInd _ | .loadInd _ | .storeHigh _ | .loadHigh _ | .storeHighC
  | .loadHighC | .alu _ _ | .ldPair _ _ | .push _ | .pop _ | .bit _ _ | .res _ _ | .set _ _ => false

/-- The byte addresses one byte store at `a` changes: its own, and its mirror (20_memory.md R63–R65, R67). -/
def storedCells (a : Addr) : List Addr :=
  match route a with
  | .wram => [a, a + 0x2000]
  | .echo => [a, a - 0x2000]
  | .cart | .flat => [a]

/-- The range whose stores are ROM writes or bank-register writes (20_memory.md R78, R92). -/
def inControlRange (a : Addr) : Bool := decide (a.toNat < 0x8000)

end Sys2Proof.Machine
end

