-- ==== Sys2Proof/Certificates/Slice0/Obligations.lean ====
section
/-! DEFINITION. The statements for the provers. Each docstring names the rule or section of spec/ it formalises, and the decision of the spec (92_eei_decisions.md) or the log entry it rests on where it rests on one. -/

open Sys2Proof Sys2Proof.Machine

/-! ## Reset and construction -/

/-- The state after reset: every register 0, SP 0x0000, PC 0x0000, Running, no hook calls, every flat cell 0x00.
10_state.md R47–R50, R52, which are the spec's decisions D1, D2 and D3. Nothing is said of the image (log entry 3). -/
def Obligations.ResetStateHoldsTheSpecValues : Prop :=
  State.reset.regs = { a := 0, f := 0, b := 0, c := 0, d := 0, e := 0, h := 0, l := 0, sp := 0, pc := 0 } ∧
  State.reset.status = .running ∧ State.reset.ticks = 0 ∧
  ∀ a : Addr, isFlatAddr a.toNat = true → routerRead a State.reset = .ok 0x00

/-- The invariant of `StepKeepsTheInvariant` holds at reset (10_state.md R29, R35, R37–R39). -/
def Obligations.ResetStateMeetsTheInvariant : Prop := State.reset.Inv

/-- Construction from any image: too short, then the type byte selects the controller or fails
(20_memory.md R95–R97; 70_reset_and_hazards.md R290), and the new Console has the reset values of 10_state.md R47–R52.
The values and the length check are the spec's decisions D1–D5, D19 and D20. -/
def Obligations.ConstructionSelectsTheController : Prop :=
  ∀ (p : Params) (img : Image),
    (img.size ≤ 0x147 → construct p img = .fault (.imageTooShort img.size)) ∧
    (img.byte? 0x147 = some 0x00 →
      construct p img = .next
        { regs := { a := 0, f := 0, b := 0, c := 0, d := 0, e := 0, h := 0, l := 0, sp := 0, pc := 0 },
          flat := [], cart := .noController (img.firstBytes 32768), status := .running, ticks := 0, params := p }) ∧
    (img.byte? 0x147 = some 0x01 →
      construct p img = .next
        { regs := { a := 0, f := 0, b := 0, c := 0, d := 0, e := 0, h := 0, l := 0, sp := 0, pc := 0 },
          flat := [],
          cart := .switchableBank
            { rom := img, ram := [], romBank := 1, ramBank := 0, mode := .romBanking, ramEnable := false },
          status := .running, ticks := 0, params := p })

/-- 20_memory.md R97: a type byte other than 0x00 and 0x01 fails construction with that byte. -/
def Obligations.UnsupportedTypeByteFailsConstruction : Prop :=
  ∀ (p : Params) (img : Image) (t : Byte), img.byte? 0x147 = some t → t ≠ 0x00 → t ≠ 0x01 →
    construct p img = .fault (.unsupportedCartridge t)

/-- Every Console constructed from a well-formed image is in a legal state (70_reset_and_hazards.md R290). -/
def Obligations.ConstructedConsolesMeetTheInvariant : Prop :=
  ∀ (p : Params) (img : Image) (s : State), img.wf = true → construct p img = .next s → s.Inv

/-! ## Decoding and encoding -/

/-- Words written out bit by bit from the encodings of 30_encoding.md R123–R129 and R142, at least one for each format
and each family of instructions, decode to their instructions. The byte values outside 0x40–0xBF and the extended table
are the spec's decision D14. -/
def Obligations.WordsOfTheSpecDecode : Prop :=
  -- Format RR (R123), and HALT in its place
  decode Config.params [0b01000110] = .ok (.ldB_IndHL, []) ∧
  decode Config.params [0b01110001] = .ok (.ldIndHL_C, []) ∧
  decode Config.params [0b01110110] = .ok (.halt, []) ∧
  -- Format ALU (R124)
  decode Config.params [0b10000001] = .ok (.addA_C, []) ∧
  decode Config.params [0b10010000] = .ok (.sub_B, []) ∧
  decode Config.params [0b10111110] = .ok (.cp_IndHL, []) ∧
  -- Format I8 (R125)
  decode Config.params [0b00001110, 0x03] = .ok (.ldC_D8 0x03, []) ∧
  -- Format I16 (R126)
  decode Config.params [0b00100001, 0x34, 0x12] = .ok (.ldHL_D16 0x1234, []) ∧
  decode Config.params [0b00110001, 0xFE, 0xFF] = .ok (.ldSP_D16 0xFFFE, []) ∧
  -- Format IND (R127)
  decode Config.params [0b00000010] = .ok (.ldIndBC_A, []) ∧
  decode Config.params [0b00010010] = .ok (.ldIndDE_A, []) ∧
  decode Config.params [0b00100010] = .ok (.ldIndHLInc_A, []) ∧
  decode Config.params [0b00110010] = .ok (.ldIndHLDec_A, []) ∧
  decode Config.params [0b00001010] = .ok (.ldA_IndBC, []) ∧
  decode Config.params [0b00011010] = .ok (.ldA_IndDE, []) ∧
  decode Config.params [0b00101010] = .ok (.ldA_IndHLInc, []) ∧
  decode Config.params [0b00111010] = .ok (.ldA_IndHLDec, []) ∧
  -- Format STK (R128)
  decode Config.params [0b11110101] = .ok (.pushAF, []) ∧
  decode Config.params [0b11010001] = .ok (.popDE, []) ∧
  -- Format CB (R129)
  decode Config.params [0b11001011, 0b01111100] = .ok (.bit7_H, []) ∧
  decode Config.params [0b11001011, 0b10000110] = .ok (.res0_IndHL, []) ∧
  decode Config.params [0b11001011, 0b11011001] = .ok (.set3_C, []) ∧
  -- Formats REL, A16, IMP and A8 (R142)
  decode Config.params [0b00011000, 0x80] = .ok (.jr 0x80, []) ∧
  decode Config.params [0b00100000, 0xFB] = .ok (.jrNZ 0xFB, []) ∧
  decode Config.params [0b11001101, 0x0E, 0x00] = .ok (.call 0x000E, []) ∧
  decode Config.params [0b00000000] = .ok (.nop, []) ∧
  decode Config.params [0b11001001] = .ok (.ret, []) ∧
  decode Config.params [0b11100010] = .ok (.ldIndC_A, []) ∧
  decode Config.params [0b11110010] = .ok (.ldA_IndC, []) ∧
  decode Config.params [0b11100000, 0x80] = .ok (.ldhIndA8_A 0x80, []) ∧
  decode Config.params [0b11110000, 0x44] = .ok (.ldhA_IndA8 0x44, [])

/-- Decoding the bytes of a well-formed instruction, whatever follows them, gives that instruction back with every
operand (30_encoding.md R120–R133, R142). -/
def Obligations.DecodeOfEncodeGivesTheInstruction : Prop :=
  ∀ (p : Params) (i : Instr) (rest : List Byte), i.wf p = true → decode p (encode i ++ rest) = .ok (i, rest)

/-- Whatever decodes was encoded: the bytes are the instruction's, and the instruction is well-formed. So every byte
sequence stands for at most one instruction, which names it wholly (30_encoding.md R137). -/
def Obligations.EncodeOfDecodeGivesTheBytes : Prop :=
  ∀ (p : Params) (bytes rest : List Byte) (i : Instr), decode p bytes = .ok (i, rest) →
    bytes = encode i ++ rest ∧ i.wf p = true

/-! ## The step -/

/-- A step from another status than Running changes nothing (60_exceptions.md R276, R277; the spec's decision D21); a
fault of the opcode fetch leaves PC unchanged (43_control.md R230), with its hook counted, which is the model's reading
(log entry 6); and the bytes at PC that decode to an instruction are all fetched, PC then holding the address after its
last byte (10_state.md R33), and that one instruction is executed with its operands handed over, which is the model's
order (log entry 7). -/
def Obligations.StepFetchesDecodesAndExecutes : Prop :=
  ∀ s : State,
    (s.status ≠ .running → step s = .next s) ∧
    (s.status = .running → ∀ f, routerRead s.regs.pc s = .error f → step s = .next (takeFault f (addHooks 1 s))) ∧
    (s.status = .running → ∀ (bytes : List Byte) (i : Instr),
      decode s.params bytes = .ok (i, []) → bytesAt s.regs.pc bytes s →
      step s = exec i ((addHooks bytes.length s).setPc (s.regs.pc + BitVec.ofNat 16 bytes.length)))

/-- A fault in the fetch of a later byte: the bytes before it were fetched, so PC is past them, and nothing else
happened (60_exceptions.md R268, R269; the spec's decision D22). The hook of the fetch that faults is the model's
reading (log entry 6). -/
def Obligations.OperandFetchFaultLeavesPcPastTheFetchedBytes : Prop :=
  ∀ (s : State) (got : List Byte) (f : Fault), s.status = .running →
    decode s.params got = .error .truncated → bytesAt s.regs.pc got s →
    routerRead (s.regs.pc + BitVec.ofNat 16 got.length) s = .error f →
    step s = .next (takeFault f
      ((addHooks (got.length + 1) s).setPc (s.regs.pc + BitVec.ofNat 16 got.length)))

/-- The primary opcodes outside the table of R134 or outside `ADMITTED_PRIMARY` raise `UnknownOpcode` with that opcode,
after its fetch; there are 87 of them under the default (30_encoding.md R135). Which opcodes the table holds, and so
their number, is the spec's decision D13, and their byte values outside 0x40–0xBF its decision D14 (log entry 11). -/
def Obligations.IllegalPrimaryOpcodesFault : Prop :=
  (∀ (s : State) (op : Byte), s.status = .running → routerRead s.regs.pc s = .ok op → op ≠ 0xCB →
    (op.toNat ∉ primaryTable ∨ s.params.removedPrimary.contains op = true) →
    step s = .next (takeFault (.unknownOpcode [op]) ((addHooks 1 s).setPc (s.regs.pc + 1)))) ∧
  ((List.range 256).filter fun n => n != 0xCB && !primaryTable.contains n).length = 87

/-- The pairs 0xCB 0x00 to 0xCB 0x3F raise `UnknownOpcode` with both bytes, after both are fetched
(30_encoding.md R136; 44_extended_cb.md R244; the spec's decision D26). -/
def Obligations.IllegalExtendedOpcodesFault : Prop :=
  ∀ (s : State) (op2 : Byte), s.status = .running → bytesAt s.regs.pc [0xCB, op2] s → op2.toNat < 0x40 →
    step s = .next (takeFault (.unknownOpcode [0xCB, op2]) ((addHooks 2 s).setPc (s.regs.pc + 2)))

/-- A Console that is halted or faulted stays as it is however often it is stepped
(60_exceptions.md R274, R276, R277; the spec's decision D21). -/
def Obligations.HaltedOrFaultedConsolesNeverChange : Prop :=
  ∀ (n : Nat) (s : State), s.status ≠ .running → core.run n s = .next s

/-- 0x76 is HALT and no load; it only sets the status, and every later step returns Halted without fetching
(43_control.md R216). That a later step changes nothing is the spec's decision D21. -/
def Obligations.HaltStopsTheConsole : Prop :=
  encode .halt = [0x76] ∧
  (∀ (p : Params) (rest : List Byte), p.admits 0x76 = true → decode p (0x76 :: rest) = .ok (.halt, rest)) ∧
  (∀ i : Instr, i.form ≠ .ld .hlInd .hlInd) ∧
  (∀ s : State, exec .halt s = .next { s with status := .halted }) ∧
  (∀ s : State, s.status = .halted → step s = .next s)

/-- Every step answers a next state, and only the byte 0x76 at PC takes a running Console to Halted
(20_memory.md R60; 60_exceptions.md R274, R275). -/
def Obligations.EveryStepAnswersAndOnlyHaltHalts : Prop :=
  ∀ s : State, ∃ t : State, step s = .next t ∧
    (s.status = .running → t.status = .halted → routerRead s.regs.pc s = .ok 0x76)

/-! ## Memory -/

/-- 20_memory.md R64 and R65: a work-RAM store is also a store 0x2000 above, an echo store also one 0x2000 below, and
a store above the echo range leaves the work-RAM cell 0x2000 below it alone. -/
def Obligations.WorkRamAndEchoStoresAreMirrored : Prop :=
  ∀ (a : Addr) (v : Byte) (s : State), s.Inv →
    (0xC000 ≤ a.toNat → a.toNat ≤ 0xDFFF →
      ∃ t, routerWrite a v s = .ok t ∧ routerRead a t = .ok v ∧ routerRead (a + 0x2000) t = .ok v) ∧
    (0xE000 ≤ a.toNat → a.toNat ≤ 0xFDFF →
      ∃ t, routerWrite a v s = .ok t ∧ routerRead a t = .ok v ∧ routerRead (a - 0x2000) t = .ok v) ∧
    (0xFE00 ≤ a.toNat →
      ∃ t, routerWrite a v s = .ok t ∧ routerRead (a - 0x2000) t = routerRead (a - 0x2000) s)

/-- 20_memory.md R67: at 0x8000–0x9FFF and 0xFE00–0xFFFF a read returns the flat cell, and a write sets that cell and
has no other effect. -/
def Obligations.FlatAddressesArePlainBytes : Prop :=
  ∀ (a : Addr) (v : Byte) (s : State), s.Inv →
    ((0x8000 ≤ a.toNat ∧ a.toNat ≤ 0x9FFF) ∨ 0xFE00 ≤ a.toNat) →
    routerRead a s = .ok (s.flat.read a.toNat) ∧
    ∃ m : Memory, routerWrite a v s = .ok { s with flat := m } ∧ m.read a.toNat = v ∧
      ∀ b : Nat, b ≠ a.toNat → m.read b = s.flat.read b

/-- A byte store outside the control range leaves every byte of the address space as it was, except at its own
address and its mirror. To a flat address it changes the flat array only, and to the cartridge RAM window the
cartridge RAM bytes only: no register, no bank register, no status (20_memory.md R63–R65, R67, R89, R103). -/
def Obligations.AStoreLeavesOtherBytesAlone : Prop :=
  ∀ (a b : Addr) (v : Byte) (s t : State), routerWrite a v s = .ok t → inControlRange a = false →
    (b ∉ storedCells a → routerRead b t = routerRead b s) ∧
    (isFlatAddr a.toNat = true → t = { s with flat := t.flat }) ∧
    (isFlatAddr a.toNat = false → t = { s with cart := s.cart.withRam t.cart.ram })

/-- 20_memory.md R78: a NoController store to 0x0000–0x7FFF faults with `WriteToRom`, whatever the value. -/
def Obligations.StoresToNoControllerRomFault : Prop :=
  ∀ (rom : Image) (a : Addr) (v : Byte) (s : State), s.cart = .noController rom → a.toNat < 0x8000 →
    routerWrite a v s = .error (.writeToRom a v)

/-- What a NoController built from an image reads: the image's first 32 KiB, and `ImageBounds` beyond the image and in
the cartridge RAM window (20_memory.md R75–R77; the spec's decisions D18 and D19). -/
def Obligations.NoControllerReadsTheFirst32KiB : Prop :=
  ∀ (img : Image) (a : Addr) (s : State), s.cart = .noController (img.firstBytes 32768) →
    (a.toNat < 0x8000 → ∀ v, img.byte? a.toNat = some v → routerRead a s = .ok v) ∧
    (a.toNat < 0x8000 → img.byte? a.toNat = none → routerRead a s = .error (.imageBounds a a.toNat)) ∧
    (0xA000 ≤ a.toNat → a.toNat ≤ 0xBFFF → routerRead a s = .error (.imageBounds a a.toNat))

/-- What a SwitchableBank reads from its ROM: bank 0 below 0x4000, the selected bank at 0x4000–0x7FFF, in either
mode, and `ImageBounds` beyond the image (20_memory.md R82, R83, R91; the spec's decisions D7 and D18). -/
def Obligations.SwitchableBankReadsTheSelectedRomBank : Prop :=
  ∀ (m : SwitchableBank) (a : Addr) (s : State) (index : Nat), s.cart = .switchableBank m →
    ((a.toNat < 0x4000 ∧ index = a.toNat) ∨
     (0x4000 ≤ a.toNat ∧ a.toNat < 0x8000 ∧ (index : Int) = a.toNat + ((m.romBank.toNat : Int) - 1) * 0x4000)) →
    (∀ v, m.rom.byte? index = some v → routerRead a s = .ok v) ∧
    (m.rom.byte? index = none → routerRead a s = .error (.imageBounds a index))

/-- The three bank registers that stores to 0x0000–0x5FFF write (20_memory.md R85, R86, R87). That the mode selects only
which field a store to 0x4000–0x5FFF writes is the spec's decision D7. -/
def Obligations.BankRegisterStores : Prop :=
  ∀ (m : SwitchableBank) (a : Addr) (v : Byte) (s : State), s.cart = .switchableBank m →
    (a.toNat ≤ 0x1FFF →
      routerWrite a v s =
        .ok { s with cart := .switchableBank { m with ramEnable := decide (v.toNat % 16 = 0xA) } }) ∧
    (0x2000 ≤ a.toNat → a.toNat ≤ 0x3FFF →
      routerWrite a v s =
        .ok { s with cart := .switchableBank { m with
          romBank := BitVec.ofNat 7 (m.romBank.toNat / 32 * 32 + (if v.toNat % 32 = 0 then 1 else v.toNat % 32)) } }) ∧
    (0x4000 ≤ a.toNat → a.toNat ≤ 0x5FFF → m.mode = .ramBanking →
      routerWrite a v s =
        .ok { s with cart := .switchableBank { m with ramBank := BitVec.ofNat 2 (v.toNat % 4) } }) ∧
    (0x4000 ≤ a.toNat → a.toNat ≤ 0x5FFF → m.mode = .romBanking →
      routerWrite a v s =
        .ok { s with cart := .switchableBank { m with
          romBank := BitVec.ofNat 7 (v.toNat % 4 * 32 + m.romBank.toNat % 32) } })

/-- A store to 0x6000–0x7FFF sets the banking mode from bit 0 and nothing else (20_memory.md R88, R91; the spec's
decisions D6 and D7). -/
def Obligations.BankingModeStores : Prop :=
  ∀ (m : SwitchableBank) (a : Addr) (v : Byte) (s : State), s.cart = .switchableBank m →
    0x6000 ≤ a.toNat → a.toNat ≤ 0x7FFF →
    routerWrite a v s =
      .ok { s with cart := .switchableBank { m with
        mode := if v.getLsbD 0 then .ramBanking else .romBanking } }

/-- A cartridge RAM read returns the byte of the selected RAM bank whether or not RAM is enabled, inside the 32 KiB, and a
store with RAM enabled writes that byte and no other (20_memory.md R84, R89). The size is the spec's decision D4, and that
either mode uses the RAM bank as stored its decision D7. -/
def Obligations.CartridgeRamReadsAndStores : Prop :=
  ∀ (m : SwitchableBank) (a : Addr) (s : State) (index : Nat), s.cart = .switchableBank m →
    0xA000 ≤ a.toNat → a.toNat ≤ 0xBFFF → index = a.toNat - 0xA000 + m.ramBank.toNat * 0x2000 →
    index ≤ 0x7FFF ∧ routerRead a s = .ok (m.ram.read index) ∧
    (m.ramEnable = true → ∀ v : Byte, m.ram.wf = true →
      ∃ ram : Memory, routerWrite a v s = .ok { s with cart := .switchableBank { m with ram := ram } } ∧
        ram.read index = v ∧ ∀ k : Nat, k ≠ index → ram.read k = m.ram.read k)

/-- A store to 0xA000–0xBFFF without RAM, or with RAM disabled under either policy (20_memory.md R79, R90; the spec's
decisions D16 and D19). -/
def Obligations.DisabledCartridgeRamStores : Prop :=
  ∀ (a : Addr) (v : Byte) (s : State), 0xA000 ≤ a.toNat → a.toNat ≤ 0xBFFF →
    (∀ rom, s.cart = .noController rom → routerWrite a v s = .error (.cartRamWriteDisabled a v)) ∧
    (∀ m, s.cart = .switchableBank m → m.ramEnable = false → s.params.ramDisabledWrite = .fault →
      routerWrite a v s = .error (.cartRamWriteDisabled a v)) ∧
    (∀ m, s.cart = .switchableBank m → m.ramEnable = false → s.params.ramDisabledWrite = .ignore →
      routerWrite a v s = .ok s)

/-! ## 8-bit loads and stores -/

/-- LD r[y],r[z] reads its source, then writes its destination, and changes nothing else; for (HL) the access is a
memory access, which may fault, a read fault before any write (40_loads_8bit.md R150). That a faulting write changes
nothing is the spec's decision D22, and that the access that faults counts its hook is the model's reading
(log entry 6). -/
def Obligations.LoadRankMovesOneByte : Prop :=
  ∀ (i : Instr) (dst src : Rank) (s : State), i.form = .ld dst src →
    encode i = [0b01#2 ++ dst.code ++ src.code] ∧ (dst, src) ≠ (.hlInd, .hlInd) ∧
    (∀ v, operandValue src s = .ok v → dst ≠ .hlInd →
      exec i s = .next ((addHooks (operandHooks src) s).setRegs (s.regs.withRank dst v))) ∧
    (∀ v t, operandValue src s = .ok v → dst = .hlInd → routerWrite s.regs.hl v s = .ok t →
      exec i s = .next (addHooks 1 t)) ∧
    (∀ v f, operandValue src s = .ok v → dst = .hlInd → routerWrite s.regs.hl v s = .error f →
      exec i s = .next (takeFault f (addHooks 1 s)) ∧
        (f = .writeToRom s.regs.hl v ∨ f = .cartRamWriteDisabled s.regs.hl v)) ∧
    (∀ f, operandValue src s = .error f →
      exec i s = .next (takeFault f (addHooks 1 s)) ∧ ∃ index, f = .imageBounds s.regs.hl index)

/-- LD r[y],d8 writes its immediate to a register or to the byte at HL (40_loads_8bit.md R151; the encoding is the
spec's decision D14). That a faulting write changes nothing is the spec's decision D22, and that it counts its hook is
the model's reading (log entry 6). -/
def Obligations.LoadImmediateWritesTheByte : Prop :=
  ∀ (i : Instr) (dst : Rank) (d8 : Byte) (s : State), i.form = .ldImm dst d8 →
    (dst ≠ .hlInd → exec i s = .next (s.setRegs (s.regs.withRank dst d8))) ∧
    (∀ t, dst = .hlInd → routerWrite s.regs.hl d8 s = .ok t → exec i s = .next (addHooks 1 t)) ∧
    (∀ f, dst = .hlInd → routerWrite s.regs.hl d8 s = .error f → exec i s = .next (takeFault f (addHooks 1 s)))

/-- LD (BC),A, LD (DE),A, LD (HL+),A and LD (HL-),A store A at the address the pair holds, high register first, and the
last two then move HL by one modulo 65536; where the store faults, HL stays (10_state.md R21; 40_loads_8bit.md
R152–R155; the spec's decisions D9, D14 and D22). The hook of a store that faults is the model's reading
(log entry 6). -/
def Obligations.StoresOfAThroughAPair : Prop :=
  ∀ (i : Instr) (m : IndMode) (s : State) (addr : Addr), i.form = .storeInd m →
    addr = (match m with
      | .bc => s.regs.b ++ s.regs.c
      | .de => s.regs.d ++ s.regs.e
      | .hlInc | .hlDec => s.regs.h ++ s.regs.l) →
    (∀ t, routerWrite addr s.regs.a s = .ok t →
      exec i s = .next ((addHooks 1 t).setRegs
        (match m with
          | .bc | .de => s.regs
          | .hlInc => s.regs.setHl (addr + 1)
          | .hlDec => s.regs.setHl (addr - 1)))) ∧
    (∀ f, routerWrite addr s.regs.a s = .error f → exec i s = .next (takeFault f (addHooks 1 s)))

/-- LD A,(BC), LD A,(DE), LD A,(HL+) and LD A,(HL-) load A from the address the pair holds, high register first, and the
last two then move HL by one modulo 65536; where the read faults, neither A nor HL changes (10_state.md R21;
40_loads_8bit.md R156–R159; the spec's decisions D9, D14 and D22). The hook of a read that faults is the model's reading
(log entry 6). -/
def Obligations.LoadsOfAThroughAPair : Prop :=
  ∀ (i : Instr) (m : IndMode) (s : State) (addr : Addr), i.form = .loadInd m →
    addr = (match m with
      | .bc => s.regs.b ++ s.regs.c
      | .de => s.regs.d ++ s.regs.e
      | .hlInc | .hlDec => s.regs.h ++ s.regs.l) →
    (∀ v, routerRead addr s = .ok v →
      exec i s = .next ((addHooks 1 s).setRegs
        (match m with
          | .bc | .de => { s.regs with a := v }
          | .hlInc => Regs.setHl { s.regs with a := v } (addr + 1)
          | .hlDec => Regs.setHl { s.regs with a := v } (addr - 1)))) ∧
    (∀ f, routerRead addr s = .error f → exec i s = .next (takeFault f (addHooks 1 s)))

/-- The four high-RAM page forms store A to, or load A from, the one cell 0xFF00 plus a8 or C, and never fault
(40_loads_8bit.md R160–R163; the spec's decisions D14 and D25). -/
def Obligations.HighPageLoadsAndStores : Prop :=
  ∀ (i : Instr) (offset : Byte) (s : State),
    ((i.form = .storeHigh offset ∨ (i.form = .storeHighC ∧ offset = s.regs.c)) →
      exec i s = .next (addHooks 1 { s with flat := s.flat.write (0xFF00 + offset.toNat) s.regs.a })) ∧
    ((i.form = .loadHigh offset ∨ (i.form = .loadHighC ∧ offset = s.regs.c)) →
      exec i s = .next (addHooks 1 { s with regs := { s.regs with a := s.flat.read (0xFF00 + offset.toNat) } }))

/-! ## The ALU block -/

/-- 41_alu.md R171: ADD leaves the sum modulo 256 in A, and the flags of that sum in F. -/
def Obligations.AddWritesTheSumAndItsFlags : Prop :=
  ∀ (i : Instr) (src : Rank) (s : State) (b : Byte), i.form = .alu .add src → operandValue src s = .ok b →
    exec i s = .next { addHooks (operandHooks src) s with regs := { s.regs with
      a := BitVec.ofNat 8 ((s.regs.a.toNat + b.toNat) % 256)
      f := (if (s.regs.a.toNat + b.toNat) % 256 = 0 then 0x80 else 0)
        ||| (if s.regs.a.toNat % 16 + b.toNat % 16 > 15 then 0x20 else 0)
        ||| (if s.regs.a.toNat + b.toNat > 255 then 0x10 else 0) } }

/-- 41_alu.md R173: SUB leaves the difference modulo 256 in A, and the flags of that difference in F. -/
def Obligations.SubWritesTheDifferenceAndItsFlags : Prop :=
  ∀ (i : Instr) (src : Rank) (s : State) (b : Byte), i.form = .alu .sub src → operandValue src s = .ok b →
    exec i s = .next { addHooks (operandHooks src) s with regs := { s.regs with
      a := BitVec.ofInt 8 (((s.regs.a.toNat : Int) - b.toNat) % 256)
      f := (if ((s.regs.a.toNat : Int) - b.toNat) % 256 = 0 then 0x80 else 0) ||| 0x40
        ||| (if ((s.regs.a.toNat % 16 : Nat) : Int) - (b.toNat % 16 : Nat) < 0 then 0x20 else 0)
        ||| (if (s.regs.a.toNat : Int) - b.toNat < 0 then 0x10 else 0) } }

/-- 41_alu.md R178: CP leaves A as it was and writes SUB's flags. -/
def Obligations.CompareWritesSubtractsFlagsOnly : Prop :=
  ∀ (i j : Instr) (src : Rank) (s t : State) (b : Byte), i.form = .alu .cp src → j.form = .alu .sub src →
    operandValue src s = .ok b → exec j s = .next t →
    exec i s = .next { t with regs := { t.regs with a := s.regs.a } }

/-- ADC and SBC in either `CARRY_IN_MODE`: with `operand_increment_8` they are ADD and SUB of the operand incremented
modulo 256 when C is set, with `sm83_three_operand` the carry enters the sum or difference and its flags
(41_alu.md R172, R174, R183, R185; the spec's decision D8). -/
def Obligations.AdcAndSbcTakeTheCarryByTheMode : Prop :=
  ∀ (i : Instr) (src : Rank) (s : State) (b : Byte) (cin x y lx ly : Nat), operandValue src s = .ok b →
    cin = (s.regs.f.getLsbD 4).toNat → x = s.regs.a.toNat → lx = x % 16 →
    ((s.params.carryInMode = .operandIncrement8 ∧ y = (b.toNat + cin) % 256 ∧ ly = y % 16) ∨
     (s.params.carryInMode = .sm83ThreeOperand ∧ y = b.toNat + cin ∧ ly = b.toNat % 16 + cin)) →
    (i.form = .alu .adc src →
      exec i s = .next { addHooks (operandHooks src) s with regs := { s.regs with
        a := BitVec.ofNat 8 (x + y)
        f := (if (x + y) % 256 = 0 then 0x80 else 0) ||| (if lx + ly > 15 then 0x20 else 0)
          ||| (if x + y > 255 then 0x10 else 0) } }) ∧
    (i.form = .alu .sbc src →
      exec i s = .next { addHooks (operandHooks src) s with regs := { s.regs with
        a := BitVec.ofInt 8 ((x : Int) - y)
        f := (if ((x : Int) - y) % 256 = 0 then 0x80 else 0) ||| 0x40 ||| (if lx < ly then 0x20 else 0)
          ||| (if x < y then 0x10 else 0) } })

/-- 41_alu.md R175, R176 and R177: AND, XOR and OR, each with its fixed H and C. -/
def Obligations.LogicOperationsWriteTheirFlags : Prop :=
  ∀ (i : Instr) (src : Rank) (s : State) (b : Byte), operandValue src s = .ok b →
    (i.form = .alu .and src →
      exec i s = .next { addHooks (operandHooks src) s with regs := { s.regs with
        a := s.regs.a &&& b, f := if s.regs.a &&& b = 0 then 0xA0 else 0x20 } }) ∧
    (i.form = .alu .xor src →
      exec i s = .next { addHooks (operandHooks src) s with regs := { s.regs with
        a := s.regs.a ^^^ b, f := if s.regs.a ^^^ b = 0 then 0x80 else 0x00 } }) ∧
    (i.form = .alu .or src →
      exec i s = .next { addHooks (operandHooks src) s with regs := { s.regs with
        a := s.regs.a ||| b, f := if s.regs.a ||| b = 0 then 0x80 else 0x00 } })

/-- The opcode 10 yyy zzz is the operation of index y on the operand of rank z; it reads the operand first, a read fault
coming before any change of A or F; then it writes all four flags, and A except for CP (41_alu.md R181). That the read
that faults counts its hook is the model's reading (log entry 6). -/
def Obligations.AluBlockSelectsReadsThenWrites : Prop :=
  ∀ (p : Params) (y z : BitVec 3) (rest : List Byte), p.admits (0b10#2 ++ y ++ z) = true →
    ∃ i : Instr, decode p ((0b10#2 ++ y ++ z) :: rest) = .ok (i, rest) ∧
      ∀ (s : State) (op : AluOp) (src : Rank),
        op = [.add, .adc, .sub, .sbc, .and, .xor, .or, .cp].getD y.toNat .cp →
        src = [.b, .c, .d, .e, .h, .l, .hlInd, .a].getD z.toNat .a →
        (∀ f, operandValue src s = .error f →
          exec i s = .next (takeFault f (addHooks 1 s)) ∧ ∃ index, f = .imageBounds s.regs.hl index) ∧
        (∀ b x, operandValue src s = .ok b →
          x = aluPrimitive s.params.carryInMode op s.regs.a b (s.regs.f.getLsbD 4) →
          exec i s = .next { addHooks (operandHooks src) s with regs := { s.regs with
            a := if op = .cp then s.regs.a else x.r
            f := (if x.flags.z then 0x80 else 0) ||| (if x.flags.n then 0x40 else 0)
              ||| (if x.flags.h then 0x20 else 0) ||| (if x.flags.c then 0x10 else 0) } })

/-- The two values of `CARRY_IN_MODE` agree on the result and on Z and N always, on H unless the carry is in and the
operand's low nibble is 0xF, and on C unless the carry is in and the operand is 0xFF; there they differ as listed
(41_alu.md R192, derived there; the spec's decision D8). -/
def Obligations.CarryModesAgreeButInTheListedCases : Prop :=
  ∀ (a b : Byte) (cin : Bool) (u w u' w' : AluResult),
    u = aluAdc .operandIncrement8 a b cin → w = aluAdc .sm83ThreeOperand a b cin →
    u' = aluSbc .operandIncrement8 a b cin → w' = aluSbc .sm83ThreeOperand a b cin →
    u.r = w.r ∧ u.flags.z = w.flags.z ∧ u.flags.n = w.flags.n ∧
    u'.r = w'.r ∧ u'.flags.z = w'.flags.z ∧ u'.flags.n = w'.flags.n ∧
    (¬ (cin = true ∧ b.toNat % 16 = 0xF) → u.flags = w.flags ∧ u'.flags = w'.flags) ∧
    (cin = true → b.toNat % 16 = 0xF →
      u.flags.h = false ∧ w.flags.h = true ∧ u'.flags.h = false ∧ w'.flags.h = true) ∧
    (cin = true → b ≠ 0xFF → u.flags.c = w.flags.c ∧ u'.flags.c = w'.flags.c) ∧
    (cin = true → b = 0xFF →
      u.flags.c = false ∧ w.flags.c = true ∧ u'.flags.c = false ∧ w'.flags.c = true)

/-! ## 16-bit loads and the stack -/

/-- LD rr,d16 and LD SP,d16 write the immediate, high byte to the pair's first register
(42_loads16_stack.md R200, R201; the encoding is the spec's decision D14). -/
def Obligations.LoadPairWritesTheImmediate : Prop :=
  ∀ (i : Instr) (d16 : Addr) (s : State) (hi lo : Byte), hi = BitVec.ofNat 8 (d16.toNat / 256) →
    lo = BitVec.ofNat 8 (d16.toNat % 256) →
    (i.form = .ldPair .bc d16 → exec i s = .next (s.setRegs { s.regs with b := hi, c := lo })) ∧
    (i.form = .ldPair .de d16 → exec i s = .next (s.setRegs { s.regs with d := hi, e := lo })) ∧
    (i.form = .ldPair .hl d16 → exec i s = .next (s.setRegs { s.regs with h := hi, l := lo })) ∧
    (i.form = .ldPair .sp d16 → exec i s = .next (s.setRegs { s.regs with sp := d16 }))

/-- PUSH qq: SP goes down by 2 modulo 65536, then the low byte is stored at SP and the high byte at SP + 1
(42_loads16_stack.md R202, R204; the spec's decisions D9, D10, D14 and D24). -/
def Obligations.PushStoresThePairBelowTheStack : Prop :=
  ∀ (i : Instr) (q : Pair) (s t u : State) (sp : Addr) (hi lo : Byte), i.form = .push q → sp = s.regs.sp - 2 →
    (hi, lo) = (match q with
      | .bc => (s.regs.b, s.regs.c)
      | .de => (s.regs.d, s.regs.e)
      | .hl => (s.regs.h, s.regs.l)
      | .af => (s.regs.a, s.regs.f)) →
    routerWrite sp lo (s.setSp sp) = .ok t → routerWrite (sp + 1) hi t = .ok u →
    exec i s = .next (addHooks 3 u)

/-- POP rr and POP AF: the low byte comes from SP and the high byte from SP + 1, SP goes up by 2 modulo 65536, and the
low nibble of F stays 0 (42_loads16_stack.md R203, R205, R206; the spec's decisions D9, D10, D14 and D15). -/
def Obligations.PopLoadsThePairFromTheStack : Prop :=
  ∀ (i : Instr) (q : Pair) (s : State) (hi lo : Byte), i.form = .pop q →
    routerRead s.regs.sp s = .ok lo → routerRead (s.regs.sp + 1) s = .ok hi →
    exec i s = .next { addHooks 2 s with regs :=
      (match q with
        | .bc => { s.regs with b := hi, c := lo, sp := s.regs.sp + 2 }
        | .de => { s.regs with d := hi, e := lo, sp := s.regs.sp + 2 }
        | .hl => { s.regs with h := hi, l := lo, sp := s.regs.sp + 2 }
        | .af => { s.regs with a := hi, f := lo &&& 0xF0, sp := s.regs.sp + 2 }) }

/-- Stack accesses that fault: PUSH and CALL keep the moved SP, and the low byte where only the second store faults;
POP and RET keep SP, PC and the pair (42_loads16_stack.md R204–R206; 43_control.md R223, R224; 60_exceptions.md R268;
the spec's decisions D22 and D29). The hook of the access that faults is the model's reading (log entry 6). -/
def Obligations.StackFaultsKeepTheEarlierEffects : Prop :=
  ∀ (i : Instr) (s : State) (sp v : Addr) (lo hi : Byte) (f : Fault),
    (((∃ q, i.form = .push q ∧ v = s.regs.pair q) ∨ (∃ a16, i.form = .call a16 ∧ v = s.regs.pc)) →
      sp = s.regs.sp - 2 → v.toNat = hi.toNat * 256 + lo.toNat →
      (routerWrite sp lo (s.setSp sp) = .error f →
        exec i s = .next (takeFault f (addHooks 1 (s.setSp sp)))) ∧
      (∀ t, routerWrite sp lo (s.setSp sp) = .ok t → routerWrite (sp + 1) hi t = .error f →
        exec i s = .next (takeFault f (addHooks 2 t)))) ∧
    (((∃ q, i.form = .pop q) ∨ i.form = .ret) →
      (routerRead s.regs.sp s = .error f → exec i s = .next (takeFault f (addHooks 1 s))) ∧
      (routerRead s.regs.sp s = .ok lo → routerRead (s.regs.sp + 1) s = .error f →
        exec i s = .next (takeFault f (addHooks 2 s))))

/-- A pair pushed to the flat array and popped arrives in the popped pair, and SP is back
(42_loads16_stack.md R202–R206; the spec's decisions D9, D10 and D15). -/
def Obligations.PushThenPopMovesThePair : Prop :=
  ∀ (i j : Instr) (q q' : Pair) (s : State), s.Inv → i.form = .push q → j.form = .pop q' →
    isFlatAddr (s.regs.sp - 2).toNat = true → isFlatAddr (s.regs.sp - 1).toNat = true →
    ∃ t u : State, exec i s = .next t ∧ exec j t = .next u ∧ u.regs = s.regs.setPair q' (s.regs.pair q) ∧
      u.status = s.status ∧ u.cart = s.cart

/-! ## Control -/

/-- NOP changes nothing (43_control.md R215; the encoding is the spec's decision D14). -/
def Obligations.NopChangesNothing : Prop :=
  ∀ s : State, encode .nop = [0x00] ∧ exec .nop s = .next s

/-- JR adds its signed displacement, modulo 65536, to the PC after the displacement byte; JR NZ, Z, NC and C do so only
where F[7] or F[4] says so, and otherwise change nothing (43_control.md R217–R222; the spec's decisions D9, D11 and D14). -/
def Obligations.RelativeJumpsMovePc : Prop :=
  ∀ (i : Instr) (e8 : Byte) (s t : State),
    t = (addHooks 1 s).setPc (BitVec.ofInt 16 (s.regs.pc.toNat + e8.toInt)) →
    (i.form = .jr e8 → exec i s = .next t) ∧
    (i.form = .jrCond .nz e8 → exec i s = .next (if s.regs.f.getLsbD 7 = false then t else s)) ∧
    (i.form = .jrCond .z e8 → exec i s = .next (if s.regs.f.getLsbD 7 = true then t else s)) ∧
    (i.form = .jrCond .nc e8 → exec i s = .next (if s.regs.f.getLsbD 4 = false then t else s)) ∧
    (i.form = .jrCond .c e8 → exec i s = .next (if s.regs.f.getLsbD 4 = true then t else s))

/-- CALL pushes the PC after its three bytes and goes to its target (43_control.md R223; the spec's decisions D9, D10,
D12, D14 and D24). -/
def Obligations.CallPushesTheReturnAddress : Prop :=
  ∀ (i : Instr) (a16 sp : Addr) (s t u : State), i.form = .call a16 → sp = s.regs.sp - 2 →
    routerWrite sp (BitVec.ofNat 8 (s.regs.pc.toNat % 256)) (s.setSp sp) = .ok t →
    routerWrite (sp + 1) (BitVec.ofNat 8 (s.regs.pc.toNat / 256)) t = .ok u →
    exec i s = .next ((addHooks 3 u).setPc a16)

/-- RET goes to the address at SP, low byte first, and SP goes up by 2 (43_control.md R224; the spec's decisions D9, D10
and D14). -/
def Obligations.ReturnPopsPc : Prop :=
  ∀ (s : State) (lo hi : Byte), routerRead s.regs.sp s = .ok lo → routerRead (s.regs.sp + 1) s = .ok hi →
    exec .ret s = .next { addHooks 3 s with regs :=
      { s.regs with pc := BitVec.ofNat 16 (hi.toNat * 256 + lo.toNat), sp := s.regs.sp + 2 } }

/-- A CALL whose stack bytes lie in the flat array, followed by RET, resumes after the CALL with every register as it was
(43_control.md R223, R224, R226; the spec's decisions D9, D10 and D12). -/
def Obligations.CallThenReturnResumes : Prop :=
  ∀ (i : Instr) (a16 : Addr) (s : State), s.Inv → i.form = .call a16 →
    isFlatAddr (s.regs.sp - 2).toNat = true → isFlatAddr (s.regs.sp - 1).toNat = true →
    ∃ t u : State, exec i s = .next t ∧ t.regs.pc = a16 ∧ exec .ret t = .next u ∧ u.regs = s.regs ∧
      u.status = s.status ∧ u.cart = s.cart

/-! ## The extended table -/

/-- BIT n,r sets Z to the complement of the bit, N to 0 and H to 1, keeps C, and changes nothing else; a read fault comes
before any change (44_extended_cb.md R241). That the read that faults counts its hook is the model's reading
(log entry 6). -/
def Obligations.BitTestWritesZNHAndKeepsC : Prop :=
  ∀ (i : Instr) (n : Fin 8) (r : Rank) (s : State), i.form = .bit n r →
    encode i = [0xCB, 0b01#2 ++ BitVec.ofNat 3 n.val ++ r.code] ∧
    (∀ b, operandValue r s = .ok b →
      exec i s = .next { addHooks (operandHooks r) s with regs := { s.regs with
        f := (if b.getLsbD n then 0 else 0x80) ||| 0x20 ||| (s.regs.f &&& 0x10) } }) ∧
    (∀ f, operandValue r s = .error f →
      exec i s = .next (takeFault f (addHooks 1 s)) ∧ ∃ index, f = .imageBounds s.regs.hl index)

/-- RES n,r and SET n,r write the operand with bit n cleared or set, also where it already was, and no flag; for (HL) a
read fault comes first, then a write fault (44_extended_cb.md R242, R243). That a faulting write changes nothing is the
spec's decision D22, and that the access that faults counts its hook is the model's reading (log entry 6). -/
def Obligations.BitClearAndBitSetWriteTheOperand : Prop :=
  ∀ (i : Instr) (n : Fin 8) (r : Rank) (s : State) (change : Byte → Byte) (kk : BitVec 2),
    ((i.form = .res n r ∧ kk = 0b10#2 ∧ change = fun b => b &&& ~~~(BitVec.ofNat 8 (2 ^ n.val))) ∨
     (i.form = .set n r ∧ kk = 0b11#2 ∧ change = fun b => b ||| BitVec.ofNat 8 (2 ^ n.val))) →
    encode i = [0xCB, kk ++ BitVec.ofNat 3 n.val ++ r.code] ∧
    (∀ b, operandValue r s = .ok b → r ≠ .hlInd →
      exec i s = .next (s.setRegs (s.regs.withRank r (change b)))) ∧
    (∀ b t, operandValue r s = .ok b → r = .hlInd → routerWrite s.regs.hl (change b) s = .ok t →
      exec i s = .next (addHooks 2 t)) ∧
    (∀ b f, operandValue r s = .ok b → r = .hlInd → routerWrite s.regs.hl (change b) s = .error f →
      exec i s = .next (takeFault f (addHooks 2 s)) ∧
        (f = .writeToRom s.regs.hl (change b) ∨ f = .cartRamWriteDisabled s.regs.hl (change b))) ∧
    (∀ f, operandValue r s = .error f →
      exec i s = .next (takeFault f (addHooks 1 s)) ∧ ∃ index, f = .imageBounds s.regs.hl index)

/-! ## Views of registers -/

/-- The flags read back as they were written, in bits 7 to 4 with the low nibble 0; a pair reads as high*256+low and
reads back what was written, AF with its low nibble 0; and a pair write changes no other register
(10_state.md R21, R22, R28, R29; the spec's decision D15 for AF). -/
def Obligations.FlagsAndPairsReadBack : Prop :=
  (∀ (x : Flags) (g : Regs), (g.setFlags x).flags = x ∧ (g.setFlags x).f &&& 0x0F = 0 ∧
    { g.setFlags x with f := g.f } = g) ∧
  (∀ g : Regs,
    (g.pair .bc).toNat = g.b.toNat * 256 + g.c.toNat ∧ (g.pair .de).toNat = g.d.toNat * 256 + g.e.toNat ∧
    (g.pair .hl).toNat = g.h.toNat * 256 + g.l.toNat ∧ (g.pair .af).toNat = g.a.toNat * 256 + g.f.toNat) ∧
  (∀ (v : Addr) (g : Regs),
    (g.setPair .bc v).pair .bc = v ∧ (g.setPair .de v).pair .de = v ∧ (g.setPair .hl v).pair .hl = v ∧
    (g.setPair .af v).pair .af = v &&& 0xFFF0 ∧
    { g.setPair .bc v with b := g.b, c := g.c } = g ∧ { g.setPair .de v with d := g.d, e := g.e } = g ∧
    { g.setPair .hl v with h := g.h, l := g.l } = g ∧ { g.setPair .af v with a := g.a, f := g.f } = g)

/-- The rank accessor by number: 0 to 5 and 7 read and write the registers B, C, D, E, H, L and A without a hook, 6 is
the router's access at HL with one hook, which may fault as its address dictates, and every other number is the fault
`InvalidRank` with no other effect (10_state.md R24–R27; 60_exceptions.md R265). The hook of an access that faults is the
model's reading (log entry 6). -/
def Obligations.RankAccessorMapsZeroToSeven : Prop :=
  ∀ (k : Nat) (s : State) (v : Byte),
    (∀ r x, [(Rank.b, s.regs.b), (.c, s.regs.c), (.d, s.regs.d), (.e, s.regs.e), (.h, s.regs.h), (.l, s.regs.l)][k]?
          = some (r, x) ∨ (k = 7 ∧ r = .a ∧ x = s.regs.a) →
      operandValue r s = .ok x ∧ readOperandNumber k s = .ok x s ∧
        writeOperandNumber k v s = .ok () (s.setRegs (s.regs.withRank r v))) ∧
    (k = 6 →
      operandValue .hlInd s = routerRead s.regs.hl s ∧
      (∀ b, routerRead s.regs.hl s = .ok b → readOperandNumber k s = .ok b (addHooks 1 s)) ∧
      (∀ f, routerRead s.regs.hl s = .error f → readOperandNumber k s = .fault f (addHooks 1 s)) ∧
      (∀ t, routerWrite s.regs.hl v s = .ok t → writeOperandNumber k v s = .ok () (addHooks 1 t)) ∧
      (∀ f, routerWrite s.regs.hl v s = .error f → writeOperandNumber k v s = .fault f (addHooks 1 s))) ∧
    (∀ r, [Rank.b, .c, .d, .e, .h, .l, .hlInd, .a][k]? = some r →
      readOperandNumber k s = readOperand r s ∧ writeOperandNumber k v s = writeOperand r v s) ∧
    (8 ≤ k → readOperandNumber k s = .fault (.invalidRank k) s ∧
      writeOperandNumber k v s = .fault (.invalidRank k) s)

/-! ## Rules over all instructions -/

/-- Only the ALU block, BIT and POP AF write F, and BIT keeps C (10_state.md R30). -/
def Obligations.OnlyFlagWritersChangeF : Prop :=
  ∀ (i : Instr) (s t : State), exec i s = .next t →
    (writesF i.form = false → t.regs.f = s.regs.f) ∧
    (∀ n r, i.form = .bit n r → t.regs.f.getLsbD 4 = s.regs.f.getLsbD 4)

/-- Only LD SP, PUSH, POP, CALL and RET move SP, and only JR, CALL and RET move PC beyond the fetch
(10_state.md R32, R33). -/
def Obligations.OnlyTheListedInstructionsMoveSpAndPc : Prop :=
  ∀ (i : Instr) (s t : State), exec i s = .next t →
    (writesSp i.form = false → t.regs.sp = s.regs.sp) ∧ (writesPc i.form = false → t.regs.pc = s.regs.pc)

/-- An instruction that stores nothing leaves the flat array and the bank controller as they were, so every address
reads as before (20_memory.md R103). -/
def Obligations.InstructionsThatStoreNothingKeepMemory : Prop :=
  ∀ (i : Instr) (s t : State), exec i s = .next t → storeTargets i.form s = [] →
    t.flat = s.flat ∧ t.cart = s.cart ∧ ∀ a : Addr, routerRead a t = routerRead a s

/-- An instruction changes no byte of the address space but at the addresses it stores to and their mirrors, and no
cartridge RAM byte of any bank but those it stores to. Where it stores to no address of the control range, every bank
register stays. Where it stores to one, also where only one of the two bytes of a PUSH or CALL lies there, every flat
cell but those stored to reads as before, the image and the cartridge RAM keep their bytes, and the bank registers are
as the store of one byte to that address leaves them, so that later cartridge reads may return other bytes
(10_state.md R43; 20_memory.md R63–R65, R70, R84–R89, R103). -/
def Obligations.InstructionsChangeOnlyTheBytesTheyStore : Prop :=
  ∀ (i : Instr) (s t : State), exec i s = .next t →
    ((∀ a ∈ storeTargets i.form s, inControlRange a = false) →
      t.cart = s.cart.withRam t.cart.ram ∧
      ∀ b : Addr, (∀ a ∈ storeTargets i.form s, b ∉ storedCells a) → routerRead b t = routerRead b s) ∧
    (∀ (m : SwitchableBank) (k : Nat), s.cart = .switchableBank m →
      (∀ a ∈ storeTargets i.form s, 0xA000 ≤ a.toNat → a.toNat ≤ 0xBFFF →
        k ≠ a.toNat - 0xA000 + m.ramBank.toNat * 0x2000) →
      t.cart.ram.read k = m.ram.read k) ∧
    (∀ b : Addr, isFlatAddr b.toNat = true →
      (∀ a ∈ storeTargets i.form s, inControlRange a = false → b ∉ storedCells a) → routerRead b t = routerRead b s) ∧
    (∀ c ∈ storeTargets i.form s, inControlRange c = true →
      t.cart.rom = s.cart.rom ∧ t.cart.ram = s.cart.ram ∧
      ((∀ a ∈ storeTargets i.form s, a ≠ c → isFlatAddr a.toNat = true) →
        t.cart = s.cart ∨ ∃ v u, routerWrite c v s = .ok u ∧ t.cart = u.cart)) ∧
    ((∀ a ∈ storeTargets i.form s, inControlRange a = true) → t.flat = s.flat)

/-! ## Invariants of every step -/

/-- Every step keeps the invariant: the low nibble of F is 0, memory keeps its canonical form within its address ranges,
the ROM bank's low five bits are not 0, and no load-time fault or `InvalidRank` is ever recorded
(10_state.md R29, R35, R37–R39; 60_exceptions.md R265, R267; the spec's decision D15). -/
def Obligations.StepKeepsTheInvariant : Prop :=
  ∀ s t : State, s.Inv → step s = .next t → t.Inv

/-- No step changes the image bytes or the controller variant (10_state.md R36–R38; 20_memory.md R92), nor the parameters:
that these are a field of State which no step changes is the model's choice (log entry 4). -/
def Obligations.StepKeepsTheImageControllerKindAndParameters : Prop :=
  ∀ s t : State, step s = .next t →
    t.cart.rom = s.cart.rom ∧ t.cart.isSwitchable = s.cart.isSwitchable ∧ t.params = s.params

/-- The hook counter is not architectural: two states that differ in it only step to states that differ in it only
(10_state.md R45; 93_implementation_defined.md U16). -/
def Obligations.TheHookCounterIsNotArchitectural : Prop :=
  ∀ s s' t t' : State, { s with ticks := s'.ticks } = s' → step s = .next t → step s' = .next t' →
    { t with ticks := t'.ticks } = t'
end

