-- ==== Sys2Proof/Laws/Bytes.lean ====
section
/-! SUPPORT. Words and their bytes. -/

namespace Sys2Proof

@[simp] theorem wordOfBytes_toNat (hi lo : Byte) : (wordOfBytes hi lo).toNat = hi.toNat * 256 + lo.toNat := by
  have h : ∀ x y : BitVec 8, (x ++ y).toNat = x.toNat * 256 + y.toNat := by
    intro x y
    have := y.isLt
    rw [BitVec.toNat_append, ← Nat.shiftLeft_add_eq_or_of_lt this, Nat.shiftLeft_eq]
  exact h hi lo

@[simp] theorem lowByte_toNat (v : Addr) : (lowByte v).toNat = v.toNat % 256 := by
  simp [lowByte]

@[simp] theorem highByte_toNat (v : Addr) : (highByte v).toNat = v.toNat / 256 := by
  have := v.isLt
  simp only [highByte, BitVec.extractLsb'_toNat, Nat.shiftRight_eq_div_pow]
  omega

@[simp] theorem wordOfBytes_high_low (v : Addr) : wordOfBytes (highByte v) (lowByte v) = v := by
  apply BitVec.eq_of_toNat_eq
  rw [wordOfBytes_toNat, highByte_toNat, lowByte_toNat]
  omega

@[simp] theorem lowByte_wordOfBytes (hi lo : Byte) : lowByte (wordOfBytes hi lo) = lo := by
  apply BitVec.eq_of_toNat_eq
  have := lo.isLt
  rw [lowByte_toNat, wordOfBytes_toNat]
  omega

@[simp] theorem highByte_wordOfBytes (hi lo : Byte) : highByte (wordOfBytes hi lo) = hi := by
  apply BitVec.eq_of_toNat_eq
  have := lo.isLt
  rw [highByte_toNat, wordOfBytes_toNat]
  omega

/-- The two bytes of a word, by number. -/
theorem eq_bytes_of_toNat {v : Addr} {hi lo : Byte} (h : v.toNat = hi.toNat * 256 + lo.toNat) :
    hi = highByte v ∧ lo = lowByte v := by
  have : v = wordOfBytes hi lo := BitVec.eq_of_toNat_eq (by rw [h, wordOfBytes_toNat])
  subst this
  simp

/-! ## The two fields of a ROM bank -/

@[simp] theorem append_low5 (hi : BitVec 2) (lo : BitVec 5) : (hi ++ lo).extractLsb' 0 5 = lo := by
  revert hi lo; decide

@[simp] theorem append_high2 (hi : BitVec 2) (lo : BitVec 5) : (hi ++ lo).extractLsb' 5 2 = hi := by
  revert hi lo; decide

end Sys2Proof
end

