-- ==== Sys2Proof/Laws/Memory.lean ====
section
/-! SUPPORT. Byte storage: a read after a write, and the canonical form, which every write keeps and which makes equal memories equal lists. -/

namespace Sys2Proof.Machine

theorem Memory.read_consCell_same (a : Nat) (v : Byte) (m : Memory) (h : Memory.read m a = unlisted) :
    Memory.read (Memory.consCell a v m) a = v := by
  unfold Memory.consCell
  split
  · rw [h]; exact Eq.symm ‹_›
  · simp [Memory.read]

theorem Memory.read_consCell_other {a b : Nat} (v : Byte) (m : Memory) (h : b ≠ a) :
    Memory.read (Memory.consCell a v m) b = Memory.read m b := by
  unfold Memory.consCell
  split
  · rfl
  · simp [Memory.read, h]

theorem Memory.wfFrom_mono {lo lo' : Nat} {m : Memory} (h : Memory.wfFrom lo m = true) (hl : lo' ≤ lo) :
    Memory.wfFrom lo' m = true := by
  cases m with
  | nil => rfl
  | cons c m =>
    obtain ⟨k, v⟩ := c
    simp only [Memory.wfFrom, Bool.and_eq_true, decide_eq_true_eq] at h ⊢
    exact ⟨⟨le_trans hl h.1.1, h.1.2⟩, h.2⟩

/-- Below the first listed address nothing is listed. -/
theorem Memory.read_below {lo a : Nat} {m : Memory} (h : Memory.wfFrom lo m = true) (ha : a < lo) :
    Memory.read m a = unlisted := by
  induction m generalizing lo with
  | nil => rfl
  | cons c m ih =>
    obtain ⟨k, v⟩ := c
    simp only [Memory.wfFrom, Bool.and_eq_true, decide_eq_true_eq] at h
    have hne : a ≠ k := by omega
    simpa [Memory.read, hne] using ih h.2 (by omega)

theorem Memory.wfFrom_consCell {lo a : Nat} {v : Byte} {m : Memory} (h : Memory.wfFrom (a + 1) m = true) (ha : lo ≤ a) :
    Memory.wfFrom lo (Memory.consCell a v m) = true := by
  unfold Memory.consCell
  split
  · exact Memory.wfFrom_mono h (by omega)
  · rename_i hv
    simp [Memory.wfFrom, ha, hv, h]

/-- A write keeps the canonical form above a bound. -/
theorem Memory.wfFrom_write {lo a : Nat} {v : Byte} {m : Memory} (h : Memory.wfFrom lo m = true) (ha : lo ≤ a) :
    Memory.wfFrom lo (Memory.write m a v) = true := by
  induction m generalizing lo with
  | nil => exact Memory.wfFrom_consCell rfl ha
  | cons c m ih =>
    obtain ⟨k, w⟩ := c
    have h' := h
    simp only [Memory.wfFrom, Bool.and_eq_true, decide_eq_true_eq] at h
    simp only [Memory.write]
    split_ifs with h1 h2
    · refine Memory.wfFrom_consCell ?_ ha
      simp only [Memory.wfFrom, Bool.and_eq_true, decide_eq_true_eq]
      exact ⟨⟨by omega, h.1.2⟩, h.2⟩
    · subst h2
      exact Memory.wfFrom_consCell h.2 ha
    · simp only [Memory.wfFrom, Bool.and_eq_true, decide_eq_true_eq]
      exact ⟨h.1, ih h.2 (by omega)⟩

/-- A write keeps the canonical form. -/
theorem Memory.wf_write {m : Memory} (h : m.wf = true) (a : Nat) (v : Byte) : Memory.wf (m.write a v) = true :=
  Memory.wfFrom_write h (Nat.zero_le a)

/-- A read after a write to the same address gives the value written. -/
theorem Memory.read_write_same_from {lo : Nat} {m : Memory} (h : Memory.wfFrom lo m = true) (a : Nat) (v : Byte) :
    (m.write a v).read a = v := by
  induction m generalizing lo with
  | nil => exact Memory.read_consCell_same a v [] rfl
  | cons c m ih =>
    obtain ⟨k, w⟩ := c
    simp only [Memory.wfFrom, Bool.and_eq_true, decide_eq_true_eq] at h
    simp only [Memory.write]
    split_ifs with h1 h2
    · apply Memory.read_consCell_same
      have hne : a ≠ k := by omega
      simpa [Memory.read, hne] using Memory.read_below h.2 (by omega)
    · subst h2
      exact Memory.read_consCell_same a v m (Memory.read_below h.2 (by omega))
    · simpa [Memory.read, h2] using ih h.2

theorem Memory.read_write_same {m : Memory} (h : m.wf = true) (a : Nat) (v : Byte) : (m.write a v).read a = v :=
  Memory.read_write_same_from h a v

/-- A write leaves every other address alone. -/
theorem Memory.read_write_other (m : Memory) {a b : Nat} (v : Byte) (h : b ≠ a) :
    (m.write a v).read b = m.read b := by
  induction m with
  | nil => exact Memory.read_consCell_other v [] h
  | cons c m ih =>
    obtain ⟨k, w⟩ := c
    simp only [Memory.write]
    split_ifs with h1 h2
    · exact Memory.read_consCell_other v _ h
    · subst h2
      rw [Memory.read_consCell_other v _ h]
      simp [Memory.read, h]
    · simp only [Memory.read, ih]

theorem Memory.keysAll_consCell {ok : Nat → Bool} {a : Nat} {v : Byte} {m : Memory}
    (h : Memory.keysAll ok m = true) (ha : ok a = true) : Memory.keysAll ok (Memory.consCell a v m) = true := by
  unfold Memory.consCell
  split
  · exact h
  · simp only [Memory.keysAll, List.all_cons, Bool.and_eq_true]
    exact ⟨ha, h⟩

/-- A write lists no address but its own. -/
theorem Memory.keysAll_write {ok : Nat → Bool} {m : Memory} (h : Memory.keysAll ok m = true) {a : Nat} (v : Byte)
    (ha : ok a = true) : Memory.keysAll ok (m.write a v) = true := by
  induction m with
  | nil => exact Memory.keysAll_consCell h ha
  | cons c m ih =>
    obtain ⟨k, w⟩ := c
    have hm : Memory.keysAll ok m = true := by
      simp only [Memory.keysAll, List.all_cons, Bool.and_eq_true] at h
      exact h.2
    have hk : ok k = true := by
      simp only [Memory.keysAll, List.all_cons, Bool.and_eq_true] at h
      exact h.1
    simp only [Memory.write]
    split_ifs with h1 h2
    · exact Memory.keysAll_consCell h ha
    · exact Memory.keysAll_consCell hm ha
    · simp only [Memory.keysAll, List.all_cons, Bool.and_eq_true]
      exact ⟨hk, ih hm⟩

/-- Canonical memories that read alike are the same list. -/
theorem Memory.eq_of_read_from {lo : Nat} {m m' : Memory} (h : Memory.wfFrom lo m = true) (h' : Memory.wfFrom lo m' = true)
    (hr : ∀ a, m.read a = m'.read a) : m = m' := by
  induction m generalizing lo m' with
  | nil =>
    cases m' with
    | nil => rfl
    | cons c m' =>
      obtain ⟨k, v⟩ := c
      simp only [Memory.wfFrom, Bool.and_eq_true, decide_eq_true_eq, bne_iff_ne] at h'
      have := hr k
      simp only [Memory.read, if_true] at this
      exact absurd this.symm h'.1.2
  | cons c m ih =>
    obtain ⟨k, v⟩ := c
    have h0 := h
    simp only [Memory.wfFrom, Bool.and_eq_true, decide_eq_true_eq, bne_iff_ne] at h
    cases m' with
    | nil =>
      have := hr k
      simp only [Memory.read, if_true] at this
      exact absurd this h.1.2
    | cons c' m' =>
      obtain ⟨k', v'⟩ := c'
      have h0' := h'
      simp only [Memory.wfFrom, Bool.and_eq_true, decide_eq_true_eq, bne_iff_ne] at h'
      have hk : k = k' := by
        by_contra hne
        rcases Nat.lt_or_gt_of_ne hne with hlt | hgt
        · have := hr k
          simp only [Memory.read, if_true, if_neg hne, Memory.read_below h'.2 (show k < k' + 1 by omega)] at this
          exact h.1.2 this
        · have := hr k'
          have hne' : ¬ k' = k := fun e => hne e.symm
          simp only [Memory.read, if_true, if_neg hne', Memory.read_below h.2 (show k' < k + 1 by omega)] at this
          exact h'.1.2 this.symm
      subst hk
      have hv : v = v' := by simpa [Memory.read] using hr k
      subst hv
      have htail : ∀ a, Memory.read m a = Memory.read m' a := by
        intro a
        by_cases ha : a = k
        · subst ha
          rw [Memory.read_below h.2 (by omega), Memory.read_below h'.2 (by omega)]
        · simpa [Memory.read, ha] using hr a
      rw [ih h.2 h'.2 htail]

/-- Equal memories are equal data. -/
theorem Memory.eq_of_read {m m' : Memory} (h : m.wf = true) (h' : m'.wf = true) (hr : ∀ a, m.read a = m'.read a) : m = m' :=
  Memory.eq_of_read_from h h' hr

/-- The reset memory has the canonical form. -/
theorem Memory.wf_nil : Memory.wf [] = true := rfl

theorem Memory.wfFrom_filter {lo : Nat} {m : Memory} (p : Host.Cell → Bool) (h : Memory.wfFrom lo m = true) :
    Memory.wfFrom lo (m.filter p) = true := by
  induction m generalizing lo with
  | nil => rfl
  | cons c m ih =>
    obtain ⟨k, v⟩ := c
    simp only [Memory.wfFrom, Bool.and_eq_true, decide_eq_true_eq] at h
    rw [List.filter_cons]
    split
    · simp only [Memory.wfFrom, Bool.and_eq_true, decide_eq_true_eq]
      exact ⟨h.1, ih h.2⟩
    · exact Memory.wfFrom_mono (ih h.2) (by omega)

end Sys2Proof.Machine
end

