-- ==== Sys2Proof/Laws/State.lean ====
section
/-! SUPPORT. One lemma for each field under each update of the state, of the register file and of the cartridge RAM. -/

namespace Sys2Proof.Machine

@[simp] theorem tick_regs (s : State) : (tick s).regs = s.regs := rfl
@[simp] theorem tick_flat (s : State) : (tick s).flat = s.flat := rfl
@[simp] theorem tick_cart (s : State) : (tick s).cart = s.cart := rfl
@[simp] theorem tick_status (s : State) : (tick s).status = s.status := rfl
@[simp] theorem tick_ticks (s : State) : (tick s).ticks = s.ticks + 1 := rfl
@[simp] theorem tick_params (s : State) : (tick s).params = s.params := rfl

@[simp] theorem takeFault_regs (f : Fault) (s : State) : (takeFault f s).regs = s.regs := rfl
@[simp] theorem takeFault_flat (f : Fault) (s : State) : (takeFault f s).flat = s.flat := rfl
@[simp] theorem takeFault_cart (f : Fault) (s : State) : (takeFault f s).cart = s.cart := rfl
@[simp] theorem takeFault_status (f : Fault) (s : State) : (takeFault f s).status = .faulted f := rfl
@[simp] theorem takeFault_ticks (f : Fault) (s : State) : (takeFault f s).ticks = s.ticks := rfl
@[simp] theorem takeFault_params (f : Fault) (s : State) : (takeFault f s).params = s.params := rfl

@[simp] theorem addHooks_regs (n : Nat) (s : State) : (addHooks n s).regs = s.regs := rfl
@[simp] theorem addHooks_flat (n : Nat) (s : State) : (addHooks n s).flat = s.flat := rfl
@[simp] theorem addHooks_cart (n : Nat) (s : State) : (addHooks n s).cart = s.cart := rfl
@[simp] theorem addHooks_status (n : Nat) (s : State) : (addHooks n s).status = s.status := rfl
@[simp] theorem addHooks_ticks (n : Nat) (s : State) : (addHooks n s).ticks = s.ticks + n := rfl
@[simp] theorem addHooks_params (n : Nat) (s : State) : (addHooks n s).params = s.params := rfl

@[simp] theorem setRegs_regs (s : State) (g : Regs) : (s.setRegs g).regs = g := rfl
@[simp] theorem setRegs_flat (s : State) (g : Regs) : (s.setRegs g).flat = s.flat := rfl
@[simp] theorem setRegs_cart (s : State) (g : Regs) : (s.setRegs g).cart = s.cart := rfl
@[simp] theorem setRegs_status (s : State) (g : Regs) : (s.setRegs g).status = s.status := rfl
@[simp] theorem setRegs_ticks (s : State) (g : Regs) : (s.setRegs g).ticks = s.ticks := rfl
@[simp] theorem setRegs_params (s : State) (g : Regs) : (s.setRegs g).params = s.params := rfl

@[simp] theorem setPc_flat (s : State) (v : Addr) : (s.setPc v).flat = s.flat := rfl
@[simp] theorem setPc_cart (s : State) (v : Addr) : (s.setPc v).cart = s.cart := rfl
@[simp] theorem setPc_status (s : State) (v : Addr) : (s.setPc v).status = s.status := rfl
@[simp] theorem setPc_ticks (s : State) (v : Addr) : (s.setPc v).ticks = s.ticks := rfl
@[simp] theorem setPc_params (s : State) (v : Addr) : (s.setPc v).params = s.params := rfl
@[simp] theorem setPc_regs_a (s : State) (v : Addr) : (s.setPc v).regs.a = s.regs.a := rfl
@[simp] theorem setPc_regs_f (s : State) (v : Addr) : (s.setPc v).regs.f = s.regs.f := rfl
@[simp] theorem setPc_regs_b (s : State) (v : Addr) : (s.setPc v).regs.b = s.regs.b := rfl
@[simp] theorem setPc_regs_c (s : State) (v : Addr) : (s.setPc v).regs.c = s.regs.c := rfl
@[simp] theorem setPc_regs_d (s : State) (v : Addr) : (s.setPc v).regs.d = s.regs.d := rfl
@[simp] theorem setPc_regs_e (s : State) (v : Addr) : (s.setPc v).regs.e = s.regs.e := rfl
@[simp] theorem setPc_regs_h (s : State) (v : Addr) : (s.setPc v).regs.h = s.regs.h := rfl
@[simp] theorem setPc_regs_l (s : State) (v : Addr) : (s.setPc v).regs.l = s.regs.l := rfl
@[simp] theorem setPc_regs_sp (s : State) (v : Addr) : (s.setPc v).regs.sp = s.regs.sp := rfl
@[simp] theorem setPc_regs_pc (s : State) (v : Addr) : (s.setPc v).regs.pc = v := rfl

@[simp] theorem setSp_flat (s : State) (v : Addr) : (s.setSp v).flat = s.flat := rfl
@[simp] theorem setSp_cart (s : State) (v : Addr) : (s.setSp v).cart = s.cart := rfl
@[simp] theorem setSp_status (s : State) (v : Addr) : (s.setSp v).status = s.status := rfl
@[simp] theorem setSp_ticks (s : State) (v : Addr) : (s.setSp v).ticks = s.ticks := rfl
@[simp] theorem setSp_params (s : State) (v : Addr) : (s.setSp v).params = s.params := rfl
@[simp] theorem setSp_regs_a (s : State) (v : Addr) : (s.setSp v).regs.a = s.regs.a := rfl
@[simp] theorem setSp_regs_f (s : State) (v : Addr) : (s.setSp v).regs.f = s.regs.f := rfl
@[simp] theorem setSp_regs_b (s : State) (v : Addr) : (s.setSp v).regs.b = s.regs.b := rfl
@[simp] theorem setSp_regs_c (s : State) (v : Addr) : (s.setSp v).regs.c = s.regs.c := rfl
@[simp] theorem setSp_regs_d (s : State) (v : Addr) : (s.setSp v).regs.d = s.regs.d := rfl
@[simp] theorem setSp_regs_e (s : State) (v : Addr) : (s.setSp v).regs.e = s.regs.e := rfl
@[simp] theorem setSp_regs_h (s : State) (v : Addr) : (s.setSp v).regs.h = s.regs.h := rfl
@[simp] theorem setSp_regs_l (s : State) (v : Addr) : (s.setSp v).regs.l = s.regs.l := rfl
@[simp] theorem setSp_regs_sp (s : State) (v : Addr) : (s.setSp v).regs.sp = v := rfl
@[simp] theorem setSp_regs_pc (s : State) (v : Addr) : (s.setSp v).regs.pc = s.regs.pc := rfl

@[simp] theorem jump_flat (t : Addr) (s : State) : (jump t s).flat = s.flat := rfl
@[simp] theorem jump_cart (t : Addr) (s : State) : (jump t s).cart = s.cart := rfl
@[simp] theorem jump_status (t : Addr) (s : State) : (jump t s).status = s.status := rfl
@[simp] theorem jump_ticks (t : Addr) (s : State) : (jump t s).ticks = s.ticks + 1 := rfl
@[simp] theorem jump_params (t : Addr) (s : State) : (jump t s).params = s.params := rfl
@[simp] theorem jump_regs_a (t : Addr) (s : State) : (jump t s).regs.a = s.regs.a := rfl
@[simp] theorem jump_regs_f (t : Addr) (s : State) : (jump t s).regs.f = s.regs.f := rfl
@[simp] theorem jump_regs_b (t : Addr) (s : State) : (jump t s).regs.b = s.regs.b := rfl
@[simp] theorem jump_regs_c (t : Addr) (s : State) : (jump t s).regs.c = s.regs.c := rfl
@[simp] theorem jump_regs_d (t : Addr) (s : State) : (jump t s).regs.d = s.regs.d := rfl
@[simp] theorem jump_regs_e (t : Addr) (s : State) : (jump t s).regs.e = s.regs.e := rfl
@[simp] theorem jump_regs_h (t : Addr) (s : State) : (jump t s).regs.h = s.regs.h := rfl
@[simp] theorem jump_regs_l (t : Addr) (s : State) : (jump t s).regs.l = s.regs.l := rfl
@[simp] theorem jump_regs_sp (t : Addr) (s : State) : (jump t s).regs.sp = s.regs.sp := rfl
@[simp] theorem jump_regs_pc (t : Addr) (s : State) : (jump t s).regs.pc = t := rfl

@[simp] theorem setF_a (g : Regs) (v : Byte) : (g.setF v).a = g.a := rfl
@[simp] theorem setF_f (g : Regs) (v : Byte) : (g.setF v).f = v &&& 0xF0 := rfl
@[simp] theorem setF_b (g : Regs) (v : Byte) : (g.setF v).b = g.b := rfl
@[simp] theorem setF_c (g : Regs) (v : Byte) : (g.setF v).c = g.c := rfl
@[simp] theorem setF_d (g : Regs) (v : Byte) : (g.setF v).d = g.d := rfl
@[simp] theorem setF_e (g : Regs) (v : Byte) : (g.setF v).e = g.e := rfl
@[simp] theorem setF_h (g : Regs) (v : Byte) : (g.setF v).h = g.h := rfl
@[simp] theorem setF_l (g : Regs) (v : Byte) : (g.setF v).l = g.l := rfl
@[simp] theorem setF_sp (g : Regs) (v : Byte) : (g.setF v).sp = g.sp := rfl
@[simp] theorem setF_pc (g : Regs) (v : Byte) : (g.setF v).pc = g.pc := rfl

@[simp] theorem setBc_a (g : Regs) (v : Addr) : (g.setBc v).a = g.a := rfl
@[simp] theorem setBc_f (g : Regs) (v : Addr) : (g.setBc v).f = g.f := rfl
@[simp] theorem setBc_b (g : Regs) (v : Addr) : (g.setBc v).b = highByte v := rfl
@[simp] theorem setBc_c (g : Regs) (v : Addr) : (g.setBc v).c = lowByte v := rfl
@[simp] theorem setBc_d (g : Regs) (v : Addr) : (g.setBc v).d = g.d := rfl
@[simp] theorem setBc_e (g : Regs) (v : Addr) : (g.setBc v).e = g.e := rfl
@[simp] theorem setBc_h (g : Regs) (v : Addr) : (g.setBc v).h = g.h := rfl
@[simp] theorem setBc_l (g : Regs) (v : Addr) : (g.setBc v).l = g.l := rfl
@[simp] theorem setBc_sp (g : Regs) (v : Addr) : (g.setBc v).sp = g.sp := rfl
@[simp] theorem setBc_pc (g : Regs) (v : Addr) : (g.setBc v).pc = g.pc := rfl

@[simp] theorem setDe_a (g : Regs) (v : Addr) : (g.setDe v).a = g.a := rfl
@[simp] theorem setDe_f (g : Regs) (v : Addr) : (g.setDe v).f = g.f := rfl
@[simp] theorem setDe_b (g : Regs) (v : Addr) : (g.setDe v).b = g.b := rfl
@[simp] theorem setDe_c (g : Regs) (v : Addr) : (g.setDe v).c = g.c := rfl
@[simp] theorem setDe_d (g : Regs) (v : Addr) : (g.setDe v).d = highByte v := rfl
@[simp] theorem setDe_e (g : Regs) (v : Addr) : (g.setDe v).e = lowByte v := rfl
@[simp] theorem setDe_h (g : Regs) (v : Addr) : (g.setDe v).h = g.h := rfl
@[simp] theorem setDe_l (g : Regs) (v : Addr) : (g.setDe v).l = g.l := rfl
@[simp] theorem setDe_sp (g : Regs) (v : Addr) : (g.setDe v).sp = g.sp := rfl
@[simp] theorem setDe_pc (g : Regs) (v : Addr) : (g.setDe v).pc = g.pc := rfl

@[simp] theorem setHl_a (g : Regs) (v : Addr) : (g.setHl v).a = g.a := rfl
@[simp] theorem setHl_f (g : Regs) (v : Addr) : (g.setHl v).f = g.f := rfl
@[simp] theorem setHl_b (g : Regs) (v : Addr) : (g.setHl v).b = g.b := rfl
@[simp] theorem setHl_c (g : Regs) (v : Addr) : (g.setHl v).c = g.c := rfl
@[simp] theorem setHl_d (g : Regs) (v : Addr) : (g.setHl v).d = g.d := rfl
@[simp] theorem setHl_e (g : Regs) (v : Addr) : (g.setHl v).e = g.e := rfl
@[simp] theorem setHl_h (g : Regs) (v : Addr) : (g.setHl v).h = highByte v := rfl
@[simp] theorem setHl_l (g : Regs) (v : Addr) : (g.setHl v).l = lowByte v := rfl
@[simp] theorem setHl_sp (g : Regs) (v : Addr) : (g.setHl v).sp = g.sp := rfl
@[simp] theorem setHl_pc (g : Regs) (v : Addr) : (g.setHl v).pc = g.pc := rfl

@[simp] theorem setAf_a (g : Regs) (v : Addr) : (g.setAf v).a = highByte v := rfl
@[simp] theorem setAf_f (g : Regs) (v : Addr) : (g.setAf v).f = lowByte v &&& 0xF0 := rfl
@[simp] theorem setAf_b (g : Regs) (v : Addr) : (g.setAf v).b = g.b := rfl
@[simp] theorem setAf_c (g : Regs) (v : Addr) : (g.setAf v).c = g.c := rfl
@[simp] theorem setAf_d (g : Regs) (v : Addr) : (g.setAf v).d = g.d := rfl
@[simp] theorem setAf_e (g : Regs) (v : Addr) : (g.setAf v).e = g.e := rfl
@[simp] theorem setAf_h (g : Regs) (v : Addr) : (g.setAf v).h = g.h := rfl
@[simp] theorem setAf_l (g : Regs) (v : Addr) : (g.setAf v).l = g.l := rfl
@[simp] theorem setAf_sp (g : Regs) (v : Addr) : (g.setAf v).sp = g.sp := rfl
@[simp] theorem setAf_pc (g : Regs) (v : Addr) : (g.setAf v).pc = g.pc := rfl

@[simp] theorem setFlags_a (g : Regs) (x : Flags) : (g.setFlags x).a = g.a := rfl
@[simp] theorem setFlags_f (g : Regs) (x : Flags) : (g.setFlags x).f = x.toByte &&& 0xF0 := rfl
@[simp] theorem setFlags_b (g : Regs) (x : Flags) : (g.setFlags x).b = g.b := rfl
@[simp] theorem setFlags_c (g : Regs) (x : Flags) : (g.setFlags x).c = g.c := rfl
@[simp] theorem setFlags_d (g : Regs) (x : Flags) : (g.setFlags x).d = g.d := rfl
@[simp] theorem setFlags_e (g : Regs) (x : Flags) : (g.setFlags x).e = g.e := rfl
@[simp] theorem setFlags_h (g : Regs) (x : Flags) : (g.setFlags x).h = g.h := rfl
@[simp] theorem setFlags_l (g : Regs) (x : Flags) : (g.setFlags x).l = g.l := rfl
@[simp] theorem setFlags_sp (g : Regs) (x : Flags) : (g.setFlags x).sp = g.sp := rfl
@[simp] theorem setFlags_pc (g : Regs) (x : Flags) : (g.setFlags x).pc = g.pc := rfl

@[simp] theorem withRam_ram (c : Cart) : c.withRam c.ram = c := by cases c <;> rfl
@[simp] theorem withRam_withRam (c : Cart) (x y : Memory) : (c.withRam x).withRam y = c.withRam y := by cases c <;> rfl
@[simp] theorem rom_withRam (c : Cart) (x : Memory) : (c.withRam x).rom = c.rom := by cases c <;> rfl
@[simp] theorem withRam_switchableBank (m : SwitchableBank) (x : Memory) :
    (Cart.switchableBank m).withRam x = .switchableBank { m with ram := x } := rfl
@[simp] theorem ram_switchableBank (m : SwitchableBank) : (Cart.switchableBank m).ram = m.ram := rfl

end Sys2Proof.Machine
end

