-- ==== Sys2Proof/Laws/Ops.lean ====
section
/-! SUPPORT. What each shared operation can do, once: results and their sequencing, the Address Router, accesses, operands, the stack and fetching. -/

namespace Sys2Proof.Machine

/-! ## Results -/

@[simp] theorem bind_ok {α β : Type} (v : α) (s : State) (k : α → State → Result β) : (Result.ok v s).bind k = k v s := rfl

@[simp] theorem bind_fault {α β : Type} (f : Fault) (s : State) (k : α → State → Result β) :
    (Result.fault f s : Result α).bind k = .fault f s := rfl

@[simp] theorem outcome_ok (s : State) : (Result.ok () s).outcome = .next s := rfl

@[simp] theorem outcome_fault (f : Fault) (s : State) : (Result.fault f s : Result Unit).outcome = .next (takeFault f s) := rfl

/-- `P` holds of the state a result answers, and `Q` of its fault where it faults. -/
def Result.Ends {α : Type} (P : State → Prop) (Q : Fault → Prop) (r : Result α) : Prop :=
  match r with
  | .ok _ s => P s
  | .fault f s => P s ∧ Q f

/-- What one operation and every continuation keep, their sequence keeps. -/
theorem ends_bind {α β : Type} {P : State → Prop} {Q : Fault → Prop} {r : Result α} {k : α → State → Result β}
    (hr : r.Ends P Q) (hk : ∀ v s, P s → (k v s).Ends P Q) : (r.bind k).Ends P Q := by
  cases r with
  | ok v s => exact hk v s hr
  | fault f s => exact hr

/-- An instruction's outcome is a next state, in which `P` holds up to the status a fault records. -/
theorem ends_outcome {P : State → Prop} {Q : Fault → Prop} {r : Result Unit} (hr : r.Ends P Q)
    (hf : ∀ f s, P s → Q f → P (takeFault f s)) : ∃ t, r.outcome = .next t ∧ P t := by
  cases r with
  | ok v s => exact ⟨s, rfl, hr⟩
  | fault f s => exact ⟨takeFault f s, rfl, hf f s hr.1 hr.2⟩

/-! ## Hooks -/

theorem tick_eq_addHooks (s : State) : tick s = addHooks 1 s := rfl

@[simp] theorem addHooks_addHooks (m n : Nat) (s : State) : addHooks m (addHooks n s) = addHooks (n + m) s := by
  simp [addHooks, Nat.add_assoc]

@[simp] theorem addHooks_zero (s : State) : addHooks 0 s = s := rfl

theorem addHooks_setRegs (n : Nat) (s : State) (g : Regs) : (addHooks n s).setRegs g = addHooks n (s.setRegs g) := rfl

theorem addHooks_setPc (n : Nat) (s : State) (v : Addr) : (addHooks n s).setPc v = addHooks n (s.setPc v) := rfl

theorem addHooks_setSp (n : Nat) (s : State) (v : Addr) : (addHooks n s).setSp v = addHooks n (s.setSp v) := rfl

/-! ## The Address Router -/

/-- The pure read looks at the flat array and the bank controller only. -/
theorem routerRead_congr (a : Addr) {s t : State} (hf : t.flat = s.flat) (hc : t.cart = s.cart) :
    routerRead a t = routerRead a s := by
  unfold routerRead
  rw [hf, hc]

@[simp] theorem routerRead_tick (a : Addr) (s : State) : routerRead a (tick s) = routerRead a s := rfl
@[simp] theorem routerRead_addHooks (a : Addr) (n : Nat) (s : State) : routerRead a (addHooks n s) = routerRead a s := rfl
@[simp] theorem routerRead_setRegs (a : Addr) (s : State) (g : Regs) : routerRead a (s.setRegs g) = routerRead a s := rfl
@[simp] theorem routerRead_setPc (a : Addr) (s : State) (v : Addr) : routerRead a (s.setPc v) = routerRead a s := rfl
@[simp] theorem routerRead_setSp (a : Addr) (s : State) (v : Addr) : routerRead a (s.setSp v) = routerRead a s := rfl
@[simp] theorem routerRead_takeFault (a : Addr) (f : Fault) (s : State) : routerRead a (takeFault f s) = routerRead a s := rfl

theorem route_cart_iff (a : Addr) : route a = .cart ↔ a.toNat < 0x8000 ∨ (0xA000 ≤ a.toNat ∧ a.toNat ≤ 0xBFFF) := by
  unfold route; split_ifs <;> simp <;> omega

theorem route_echo_iff (a : Addr) : route a = .echo ↔ 0xE000 ≤ a.toNat ∧ a.toNat ≤ 0xFDFF := by
  unfold route; split_ifs <;> simp <;> omega

theorem route_wram_iff (a : Addr) : route a = .wram ↔ 0xC000 ≤ a.toNat ∧ a.toNat ≤ 0xDFFF := by
  unfold route; split_ifs <;> simp <;> omega

theorem route_flat_iff (a : Addr) :
    route a = .flat ↔ (0x8000 ≤ a.toNat ∧ a.toNat ≤ 0x9FFF) ∨ 0xFE00 ≤ a.toNat := by
  have := a.isLt
  unfold route; split_ifs <;> simp <;> omega

/-- A read in the cartridge's ranges is the bank controller's. -/
theorem routerRead_of_cart {a : Addr} (s : State) (h : route a = .cart) : routerRead a s = cartRead s.cart a := by
  unfold routerRead; rw [h]

/-- A write in the cartridge's ranges is the bank controller's. -/
theorem routerWrite_of_cart {a : Addr} (v : Byte) (s : State) (h : route a = .cart) :
    routerWrite a v s =
      (cartWrite s.params.ramDisabledWrite s.cart a v).map fun c => { s with cart := c } := by
  unfold routerWrite; rw [h]
  cases cartWrite s.params.ramDisabledWrite s.cart a v <;> rfl

/-- A read outside the cartridge's ranges is the flat array's cell. -/
theorem routerRead_of_flat {a : Addr} (s : State) (h : route a ≠ .cart) : routerRead a s = .ok (s.flat.read a.toNat) := by
  unfold routerRead
  split
  · exact absurd ‹_› h
  · rfl
  · rfl
  · rfl

/-- Everything a router write can do: a new bank controller, or one or two cells of the flat array. -/
theorem routerWrite_cases {a : Addr} {v : Byte} {s t : State} (h : routerWrite a v s = .ok t) :
    (route a = .cart ∧ ∃ c, cartWrite s.params.ramDisabledWrite s.cart a v = .ok c ∧ t = { s with cart := c }) ∨
    (route a = .echo ∧ t = { s with flat := (s.flat.write a.toNat v).write (a - 0x2000).toNat v }) ∨
    (route a = .wram ∧ t = { s with flat := (s.flat.write a.toNat v).write (a + 0x2000).toNat v }) ∨
    (route a = .flat ∧ t = { s with flat := s.flat.write a.toNat v }) := by
  unfold routerWrite at h
  split at h
  · refine .inl ⟨‹_›, ?_⟩
    split at h
    · rename_i c hc
      cases h
      exact ⟨c, hc, rfl⟩
    · cases h
  · cases h; exact .inr (.inl ⟨‹_›, rfl⟩)
  · cases h; exact .inr (.inr (.inl ⟨‹_›, rfl⟩))
  · cases h; exact .inr (.inr (.inr ⟨‹_›, rfl⟩))

/-- A router write changes the flat array and the bank controller only. -/
theorem routerWrite_frame {a : Addr} {v : Byte} {s t : State} (h : routerWrite a v s = .ok t) :
    t.regs = s.regs ∧ t.status = s.status ∧ t.ticks = s.ticks ∧ t.params = s.params := by
  rcases routerWrite_cases h with ⟨-, c, -, rfl⟩ | ⟨-, rfl⟩ | ⟨-, rfl⟩ | ⟨-, rfl⟩ <;> exact ⟨rfl, rfl, rfl, rfl⟩

/-- A router write does not look at the hook counter. -/
theorem routerWrite_addHooks (a : Addr) (v : Byte) (n : Nat) (s : State) :
    routerWrite a v (addHooks n s) = (routerWrite a v s).map (addHooks n) := by
  unfold routerWrite
  cases route a <;> simp only [addHooks_params, addHooks_cart, addHooks_flat]
  · cases cartWrite s.params.ramDisabledWrite s.cart a v <;> rfl
  · rfl
  · rfl
  · rfl

/-- A router write looks at no register. -/
theorem routerWrite_setRegs (a : Addr) (v : Byte) (s : State) (g : Regs) :
    routerWrite a v (s.setRegs g) = (routerWrite a v s).map (·.setRegs g) := by
  unfold routerWrite
  cases route a <;> simp only [setRegs_params, setRegs_cart, setRegs_flat]
  · cases cartWrite s.params.ramDisabledWrite s.cart a v <;> rfl
  · rfl
  · rfl
  · rfl

theorem routerWrite_addHooks_ok {a : Addr} {v : Byte} {s t : State} (n : Nat) (h : routerWrite a v s = .ok t) :
    routerWrite a v (addHooks n s) = .ok (addHooks n t) := by
  rw [routerWrite_addHooks, h]; rfl

theorem routerWrite_addHooks_error {a : Addr} {v : Byte} {s : State} {f : Fault} (n : Nat)
    (h : routerWrite a v s = .error f) : routerWrite a v (addHooks n s) = .error f := by
  rw [routerWrite_addHooks, h]; rfl

/-- Outside the cartridge's ranges a router write never faults. -/
theorem routerWrite_of_flat {a : Addr} (v : Byte) (s : State) (h : route a = .flat) :
    routerWrite a v s = .ok { s with flat := s.flat.write a.toNat v } := by
  unfold routerWrite; rw [h]

theorem routerWrite_of_wram {a : Addr} (v : Byte) (s : State) (h : route a = .wram) :
    routerWrite a v s = .ok { s with flat := (s.flat.write a.toNat v).write (a + 0x2000).toNat v } := by
  unfold routerWrite; rw [h]

theorem routerWrite_of_echo {a : Addr} (v : Byte) (s : State) (h : route a = .echo) :
    routerWrite a v s = .ok { s with flat := (s.flat.write a.toNat v).write (a - 0x2000).toNat v } := by
  unfold routerWrite; rw [h]

/-! ## Control stores -/

/-- A control store changes bank registers only. -/
theorem writeControl_keeps (a : Addr) (v : Byte) (m : SwitchableBank) :
    (m.writeControl a v).rom = m.rom ∧ (m.writeControl a v).ram = m.ram := by
  unfold SwitchableBank.writeControl SwitchableBank.writeBankHigh
  split_ifs <;> first | exact ⟨rfl, rfl⟩ | (split <;> exact ⟨rfl, rfl⟩)

/-- Of two control stores to one address the later decides: each register is written from the value alone. -/
theorem writeControl_writeControl (a : Addr) (v w : Byte) (m : SwitchableBank) :
    (m.writeControl a v).writeControl a w = m.writeControl a w := by
  unfold SwitchableBank.writeControl
  split_ifs
  · rfl
  · simp [SwitchableBank.writeRomBankLow]
  · unfold SwitchableBank.writeBankHigh
    cases m.mode <;> simp
  · rfl

/-- A router write to the control range is the SwitchableBank's control store, and nothing else. -/
theorem routerWrite_of_control {a : Addr} {v : Byte} {s t : State} (ha : inControlRange a = true)
    (h : routerWrite a v s = .ok t) :
    ∃ m, s.cart = .switchableBank m ∧ t = { s with cart := .switchableBank (m.writeControl a v) } := by
  have ha : a.toNat < 0x8000 := of_decide_eq_true ha
  rw [routerWrite_of_cart v s ((route_cart_iff a).2 (.inl ha))] at h
  cases hc : s.cart with
  | noController rom => simp [hc, cartWrite, ha, Except.map] at h
  | switchableBank m => exact ⟨m, rfl, by simpa [hc, cartWrite, ha, Except.map, eq_comm] using h⟩

/-- A SwitchableBank takes every control store. -/
theorem routerWrite_control_ok {a : Addr} (v : Byte) {s : State} {m : SwitchableBank} (ha : inControlRange a = true)
    (hm : s.cart = .switchableBank m) :
    routerWrite a v s = .ok { s with cart := .switchableBank (m.writeControl a v) } := by
  have ha : a.toNat < 0x8000 := of_decide_eq_true ha
  rw [routerWrite_of_cart v s ((route_cart_iff a).2 (.inl ha)), hm]
  simp [cartWrite, ha, Except.map]

/-- A router write outside the control range changes no bank register: at most cartridge RAM bytes, of which one. -/
theorem routerWrite_of_data {a : Addr} {v : Byte} {s t : State} (ha : inControlRange a = false)
    (h : routerWrite a v s = .ok t) : t.cart = s.cart ∨
      0xA000 ≤ a.toNat ∧ a.toNat ≤ 0xBFFF ∧ ∃ m, s.cart = .switchableBank m ∧
        t = { s with cart := .switchableBank { m with ram := m.ram.write (m.ramIndex a) v } } := by
  have ha : ¬ a.toNat < 0x8000 := of_decide_eq_false ha
  rcases routerWrite_cases h with ⟨hr, c, hc, rfl⟩ | ⟨-, rfl⟩ | ⟨-, rfl⟩ | ⟨-, rfl⟩
  · have hr := ((route_cart_iff a).1 hr).resolve_left ha
    unfold cartWrite at hc
    split at hc
    · rw [if_neg ha] at hc; cases hc
    · rename_i m hm
      rw [if_neg ha] at hc
      split at hc
      · cases hc; exact .inr ⟨hr.1, hr.2, m, hm, rfl⟩
      · split at hc <;> cases hc
        exact .inl rfl
  all_goals exact .inl rfl

/-- A router write to a flat address leaves the bank controller alone. -/
theorem routerWrite_flat_cart {a : Addr} {v : Byte} {s t : State} (ha : isFlatAddr a.toNat = true)
    (h : routerWrite a v s = .ok t) : t.cart = s.cart := by
  rcases routerWrite_cases h with ⟨hr, -⟩ | ⟨-, rfl⟩ | ⟨-, rfl⟩ | ⟨-, rfl⟩
  · rw [route_cart_iff] at hr
    simp only [isFlatAddr, Bool.or_eq_true, Bool.and_eq_true, decide_eq_true_eq] at ha
    omega
  all_goals rfl

/-! ## Accesses -/

theorem readByte_of_ok {a : Addr} {v : Byte} {s : State} (h : routerRead a s = .ok v) : readByte a s = .ok v (addHooks 1 s) := by
  unfold readByte; rw [h]; rfl

theorem readByte_of_error {a : Addr} {f : Fault} {s : State} (h : routerRead a s = .error f) :
    readByte a s = .fault f (addHooks 1 s) := by
  unfold readByte; rw [h]; rfl

theorem writeByte_of_ok {a : Addr} {v : Byte} {s t : State} (h : routerWrite a v s = .ok t) :
    writeByte a v s = .ok () (addHooks 1 t) := by
  unfold writeByte; rw [tick_eq_addHooks, routerWrite_addHooks_ok 1 h]

theorem writeByte_of_error {a : Addr} {v : Byte} {s : State} {f : Fault} (h : routerWrite a v s = .error f) :
    writeByte a v s = .fault f (addHooks 1 s) := by
  unfold writeByte; rw [tick_eq_addHooks, routerWrite_addHooks_error 1 h]

/-- A byte read changes the hook counter only. -/
theorem readByte_cases (a : Addr) (s : State) :
    (∃ v, routerRead a s = .ok v ∧ readByte a s = .ok v (addHooks 1 s)) ∨
    (∃ f, routerRead a s = .error f ∧ readByte a s = .fault f (addHooks 1 s)) := by
  cases h : routerRead a s with
  | ok v => exact .inl ⟨v, rfl, readByte_of_ok h⟩
  | error f => exact .inr ⟨f, rfl, readByte_of_error h⟩

/-- A byte write is the router's write with one hook, or a fault and no change but the hook. -/
theorem writeByte_cases (a : Addr) (v : Byte) (s : State) :
    (∃ t, routerWrite a v s = .ok t ∧ writeByte a v s = .ok () (addHooks 1 t)) ∨
    (∃ f, routerWrite a v s = .error f ∧ writeByte a v s = .fault f (addHooks 1 s)) := by
  cases h : routerWrite a v s with
  | ok t => exact .inl ⟨t, rfl, writeByte_of_ok h⟩
  | error f => exact .inr ⟨f, rfl, writeByte_of_error h⟩

/-! ## The stack -/

theorem push_of_ok {v : Addr} {s t u : State}
    (h1 : routerWrite (s.regs.sp - 2) (lowByte v) (s.setSp (s.regs.sp - 2)) = .ok t)
    (h2 : routerWrite (s.regs.sp - 2 + 1) (highByte v) t = .ok u) : push v s = .ok () (addHooks 3 u) := by
  show (writeWord (s.regs.sp - 2) v (s.setSp (s.regs.sp - 2))).bind _ = _
  unfold writeWord
  rw [writeByte_of_ok h1, bind_ok, writeByte_of_ok (routerWrite_addHooks_ok 1 h2)]
  rfl

theorem push_of_first_error {v : Addr} {s : State} {f : Fault}
    (h1 : routerWrite (s.regs.sp - 2) (lowByte v) (s.setSp (s.regs.sp - 2)) = .error f) :
    push v s = .fault f (addHooks 1 (s.setSp (s.regs.sp - 2))) := by
  show (writeWord (s.regs.sp - 2) v (s.setSp (s.regs.sp - 2))).bind _ = _
  unfold writeWord
  rw [writeByte_of_error h1]
  rfl

theorem push_of_second_error {v : Addr} {s t : State} {f : Fault}
    (h1 : routerWrite (s.regs.sp - 2) (lowByte v) (s.setSp (s.regs.sp - 2)) = .ok t)
    (h2 : routerWrite (s.regs.sp - 2 + 1) (highByte v) t = .error f) : push v s = .fault f (addHooks 2 t) := by
  show (writeWord (s.regs.sp - 2) v (s.setSp (s.regs.sp - 2))).bind _ = _
  unfold writeWord
  rw [writeByte_of_ok h1, bind_ok, writeByte_of_error (routerWrite_addHooks_error 1 h2)]
  rfl

theorem pop_of_ok {s : State} {lo hi : Byte} (h1 : routerRead s.regs.sp s = .ok lo)
    (h2 : routerRead (s.regs.sp + 1) s = .ok hi) :
    pop s = .ok (wordOfBytes hi lo) ((addHooks 2 s).setSp (s.regs.sp + 2)) := by
  unfold pop readWord
  rw [readByte_of_ok h1, bind_ok, readByte_of_ok (s := addHooks 1 s) h2]
  rfl

theorem pop_of_first_error {s : State} {f : Fault} (h1 : routerRead s.regs.sp s = .error f) :
    pop s = .fault f (addHooks 1 s) := by
  unfold pop readWord
  rw [readByte_of_error h1]
  rfl

theorem pop_of_second_error {s : State} {lo : Byte} {f : Fault} (h1 : routerRead s.regs.sp s = .ok lo)
    (h2 : routerRead (s.regs.sp + 1) s = .error f) : pop s = .fault f (addHooks 2 s) := by
  unfold pop readWord
  rw [readByte_of_ok h1, bind_ok, readByte_of_error (s := addHooks 1 s) h2]
  rfl

/-! ## Operands -/

theorem readOperand_of_ok {r : Rank} {s : State} {v : Byte} (h : operandValue r s = .ok v) :
    readOperand r s = .ok v (addHooks (operandHooks r) s) := by
  cases r <;> first | exact readByte_of_ok h | (cases h; rfl)

theorem readOperand_of_error {r : Rank} {s : State} {f : Fault} (h : operandValue r s = .error f) :
    readOperand r s = .fault f (addHooks 1 s) := by
  cases r <;> first | exact readByte_of_error h | cases h

theorem writeOperand_register {r : Rank} (v : Byte) (s : State) (h : r ≠ .hlInd) :
    writeOperand r v s = .ok () (s.setRegs (s.regs.withRank r v)) := by
  cases r <;> first | rfl | exact absurd rfl h

theorem writeOperand_hlInd (v : Byte) (s : State) : writeOperand .hlInd v s = writeByte s.regs.hl v s := rfl

/-! ## What every operation keeps -/

section Ends

variable {P : State → Prop} {Q : Fault → Prop}

theorem readByte_ends {s : State} (a : Addr) (hP : ∀ n, P (addHooks n s)) (hQ : ∀ f, routerRead a s = .error f → Q f) :
    (readByte a s).Ends P Q := by
  rcases readByte_cases a s with ⟨v, -, h⟩ | ⟨f, hf, h⟩ <;> rw [h]
  · exact hP 1
  · exact ⟨hP 1, hQ f hf⟩

theorem writeByte_ends {s : State} (a : Addr) (v : Byte) (hP : ∀ t, routerWrite a v s = .ok t → P (addHooks 1 t))
    (hQ : ∀ f, routerWrite a v s = .error f → P (addHooks 1 s) ∧ Q f) : (writeByte a v s).Ends P Q := by
  rcases writeByte_cases a v s with ⟨t, ht, h⟩ | ⟨f, hf, h⟩ <;> rw [h]
  · exact hP t ht
  · exact hQ f hf

/-- A result that ends in more ends in less. -/
theorem ends_mono {α : Type} {P' : State → Prop} {r : Result α} (h : r.Ends P' Q) (hp : ∀ s, P' s → P s) : r.Ends P Q := by
  cases r with
  | ok v s => exact hp _ h
  | fault f s => exact ⟨hp _ h.1, h.2⟩

/-- A sequence whose first operation keeps more than the whole. -/
theorem ends_seq {α β : Type} {P' : State → Prop} {r : Result α} {k : α → State → Result β}
    (hr : r.Ends P' Q) (hp : ∀ s, P' s → P s) (hk : ∀ v s, P' s → (k v s).Ends P Q) : (r.bind k).Ends P Q := by
  cases r with
  | ok v s => exact hk v s hr
  | fault f s => exact ⟨hp _ hr.1, hr.2⟩

end Ends

/-! ## Faults of accesses -/

theorem romRead_error {rom : Image} {a : Addr} {i : Nat} {f : Fault} (h : romRead rom a i = .error f) : f = .imageBounds a i := by
  unfold romRead at h
  split at h <;> cases h
  rfl

/-- A read raises `ImageBounds` at its address, or nothing. -/
theorem routerRead_error {a : Addr} {s : State} {f : Fault} (h : routerRead a s = .error f) : ∃ i, f = .imageBounds a i := by
  unfold routerRead at h
  split at h
  · unfold cartRead at h
    split at h
    · split_ifs at h
      · exact ⟨_, romRead_error h⟩
      · cases h; exact ⟨_, rfl⟩
    · split_ifs at h
      · exact ⟨_, romRead_error h⟩
      · exact ⟨_, romRead_error h⟩
  all_goals cases h

/-- A write raises one of the two protection faults with its address and value, or nothing. -/
theorem routerWrite_error {a : Addr} {v : Byte} {s : State} {f : Fault} (h : routerWrite a v s = .error f) :
    f = .writeToRom a v ∨ f = .cartRamWriteDisabled a v := by
  unfold routerWrite at h
  split at h
  · split at h
    · cases h
    · rename_i f hf
      cases h
      unfold cartWrite at hf
      split at hf
      · split_ifs at hf <;> cases hf <;> simp
      · split_ifs at hf
        split at hf <;> cases hf
        simp
  all_goals cases h

theorem routerRead_error_ofAStep {a : Addr} {s : State} {f : Fault} (h : routerRead a s = .error f) : f.ofAStep = true := by
  obtain ⟨i, rfl⟩ := routerRead_error h
  rfl

theorem routerWrite_error_ofAStep {a : Addr} {v : Byte} {s : State} {f : Fault} (h : routerWrite a v s = .error f) :
    f.ofAStep = true := by
  rcases routerWrite_error h with rfl | rfl <;> rfl

end Sys2Proof.Machine
end

