-- ==== Sys2Proof/Laws/Form.lean ====
section
/-! SUPPORT. Instructions by format: what exec does is a function of the format, so a claim about a row of the table is proved over the 21 formats. -/

namespace Sys2Proof

/-! ## Operand codes are inverse to their decoding -/

@[simp] theorem Rank.ofCode_code (r : Rank) : Rank.ofCode r.code = r := by cases r <;> rfl
@[simp] theorem Pair.ofCode_code (q : Pair) : Pair.ofCode q.code = q := by cases q <;> rfl
@[simp] theorem Dest16.ofCode_code (d : Dest16) : Dest16.ofCode d.code = d := by cases d <;> rfl
@[simp] theorem IndMode.ofCode_code (m : IndMode) : IndMode.ofCode m.code = m := by cases m <;> rfl
@[simp] theorem Cond.ofCode_code (cc : Cond) : Cond.ofCode cc.code = cc := by cases cc <;> rfl
@[simp] theorem AluOp.ofCode_code (o : AluOp) : AluOp.ofCode o.code = o := by cases o <;> rfl

@[simp] theorem Rank.code_ofCode (x : BitVec 3) : (Rank.ofCode x).code = x := by revert x; decide
@[simp] theorem Pair.code_ofCode (x : BitVec 2) : (Pair.ofCode x).code = x := by revert x; decide
@[simp] theorem Dest16.code_ofCode (x : BitVec 2) : (Dest16.ofCode x).code = x := by revert x; decide
@[simp] theorem IndMode.code_ofCode (x : BitVec 2) : (IndMode.ofCode x).code = x := by revert x; decide
@[simp] theorem Cond.code_ofCode (x : BitVec 2) : (Cond.ofCode x).code = x := by revert x; decide
@[simp] theorem AluOp.code_ofCode (x : BitVec 3) : (AluOp.ofCode x).code = x := by revert x; decide

/-! ## Rows and formats -/

/-- The row of an instruction's format is the instruction. -/
theorem Instr.row_form (i : Instr) : i.form.instr? = some i := by cases i <;> rfl

/-- The format of a row is the format asked for. -/
theorem Form.form_row {f : Form} {i : Instr} (h : f.instr? = some i) : i.form = f := by
  cases f with
  | nop | halt | storeHigh _ | loadHigh _ | storeHighC | loadHighC | jr _ | call _ | ret => cases h; rfl
  | ld dst src => cases dst <;> cases src <;> cases h <;> rfl
  | ldImm dst _ => cases dst <;> cases h <;> rfl
  | storeInd m | loadInd m => cases m <;> cases h <;> rfl
  | alu op src => cases op <;> cases src <;> cases h <;> rfl
  | ldPair dst _ => cases dst <;> cases h <;> rfl
  | push q | pop q => cases q <;> cases h <;> rfl
  | jrCond cc _ => cases cc <;> cases h <;> rfl
  | bit n r | res n r | set n r => fin_cases n <;> cases r <;> cases h <;> rfl

/-- Two instructions of one format are the same row. -/
theorem Instr.form_injective {i j : Instr} (h : i.form = j.form) : i = j := by
  have := i.row_form
  rw [h, j.row_form] at this
  exact (Option.some.inj this).symm

theorem Instr.form_eq_iff (i j : Instr) : j.form = i.form ↔ j = i := ⟨Instr.form_injective, fun h => h ▸ rfl⟩

/-- Every format but LD (HL),(HL) has a row. -/
theorem Form.row_exists (f : Form) (h : f ≠ .ld .hlInd .hlInd) : ∃ i : Instr, f.instr? = some i := by
  cases f with
  | nop | halt | storeHigh _ | loadHigh _ | storeHighC | loadHighC | jr _ | call _ | ret => exact ⟨_, rfl⟩
  | ld dst src => cases dst <;> cases src <;> first | exact ⟨_, rfl⟩ | exact absurd rfl h
  | ldImm dst _ => cases dst <;> exact ⟨_, rfl⟩
  | storeInd m | loadInd m => cases m <;> exact ⟨_, rfl⟩
  | alu op src => exact ⟨_, rfl⟩
  | ldPair dst _ => cases dst <;> exact ⟨_, rfl⟩
  | push q | pop q => cases q <;> exact ⟨_, rfl⟩
  | jrCond cc _ => cases cc <;> exact ⟨_, rfl⟩
  | bit n r | res n r | set n r => exact ⟨_, rfl⟩

/-! ## Meanings by format -/

namespace Machine

/-- The shared operation of each format. -/
def execForm (f : Form) (s : State) : Host.Outcome State Fault Refusal :=
  match f with
  | .nop => nop s
  | .halt => halt s
  | .ld dst src => loadRank dst src s
  | .ldImm dst d8 => loadImmediate dst d8 s
  | .storeInd m => storeIndirect m s
  | .loadInd m => loadIndirect m s
  | .storeHigh a8 => storeHigh a8 s
  | .loadHigh a8 => loadHigh a8 s
  | .storeHighC => storeHighC s
  | .loadHighC => loadHighC s
  | .alu op src => alu op src s
  | .ldPair dst d16 => loadPair dst d16 s
  | .push q => pushPair q s
  | .pop q => popPair q s
  | .jr e8 => jumpRelative e8 s
  | .jrCond cc e8 => jumpRelativeIf cc e8 s
  | .call a16 => call a16 s
  | .ret => ret s
  | .bit n r => bitTest n r s
  | .res n r => bitClear n r s
  | .set n r => bitSet n r s

/-- Every row's meaning is the shared operation of its format. -/
theorem exec_eq_execForm (i : Instr) (s : State) : exec i s = execForm i.form s := by cases i <;> rfl

theorem exec_of_form {i : Instr} {f : Form} (h : i.form = f) (s : State) : exec i s = execForm f s := by
  rw [exec_eq_execForm, h]

end Machine
end Sys2Proof
end

