-- ==== Sys2Proof/Laws/Decode.lean ====
section
/-! SUPPORT. The decoder's parts, one lemma each: an admitted opcode, the operand bytes, and the primary table against the encoder. -/

namespace Sys2Proof

/-! ## Operand bytes -/

theorem withWord_wordBytes (k : Addr → Form) (v : Addr) (rest : List Byte) :
    withWord k (wordBytes v ++ rest) = .ok (k v, rest) := by
  show Except.ok (k (wordOfBytes (highByte v) (lowByte v)), rest) = _
  rw [wordOfBytes_high_low]

theorem withByte_inv {k : Byte → Form} {rest rest' : List Byte} {f : Form} (h : withByte k rest = .ok (f, rest')) :
    ∃ v, rest = v :: rest' ∧ f = k v := by
  cases rest with
  | nil => cases h
  | cons v r => cases h; exact ⟨v, rfl, rfl⟩

theorem withWord_inv {k : Addr → Form} {rest rest' : List Byte} {f : Form} (h : withWord k rest = .ok (f, rest')) :
    ∃ v, rest = wordBytes v ++ rest' ∧ f = k v := by
  match rest, h with
  | lo :: hi :: r, h => cases h; exact ⟨_, by simp [wordBytes], rfl⟩

@[simp] theorem bitField_toFin (x : BitVec 3) : bitField x.toFin = x := rfl

/-! ## The tables -/

/-- An admitted primary opcode is looked up in the primary table. -/
theorem decodeForm_admitted {p : Params} {op : Byte} (rest : List Byte) (h : op ≠ 0xCB) (ha : p.admits op = true) :
    decodeForm p (op :: rest) = decodePrimary op rest := by
  show (if _ then _ else _) = _
  rw [if_neg h, if_pos ha]

theorem decodePrimary_ldImm (dst : Rank) (rest : List Byte) :
    decodePrimary (0b00#2 ++ dst.code ++ 0b110#3) rest = withByte (.ldImm dst) rest := by
  cases dst <;> rfl

theorem decodePrimary_ldPair (dst : Dest16) (rest : List Byte) :
    decodePrimary (0b00#2 ++ dst.code ++ 0b0001#4) rest = withWord (.ldPair dst) rest := by
  cases dst <;> rfl

theorem decodePrimary_jrCond (cc : Cond) (rest : List Byte) :
    decodePrimary (0b001#3 ++ cc.code ++ 0b000#3) rest = withByte (.jrCond cc) rest := by
  cases cc <;> rfl

/-! ## A byte is its fields -/

set_option maxRecDepth 4000 in
/-- A byte is its fields of 2, 3 and 3 bits. -/
theorem byte_fields (op : Byte) : op.extractLsb' 6 2 ++ op.extractLsb' 3 3 ++ op.extractLsb' 0 3 = op := by
  revert op; decide

set_option maxRecDepth 4000 in
/-- A byte is its fields of 2, 2 and 4 bits. -/
theorem byte_nibbles (op : Byte) : op.extractLsb' 6 2 ++ op.extractLsb' 4 2 ++ op.extractLsb' 0 4 = op := by
  revert op; decide

/-- A field by its number. -/
theorem eq_ofNat_of_toNat {w n : Nat} {x : BitVec w} (h : x.toNat = n) : x = BitVec.ofNat w n := by
  subst h; simp

end Sys2Proof
end

