-- ==== Sys2Proof/Laws/Exec.lean ====
section
/-! SUPPORT. What an instruction can do, once for all formats: the register changes a format allows, and the properties every instruction keeps. -/

namespace Sys2Proof.Machine

/-! ## Flags -/

theorem and_F0_and_0F (x : Byte) : x &&& 0xF0 &&& 0x0F = 0 := by
  rw [BitVec.and_assoc]; simp

@[simp] theorem Flags.toByte_and_F0 (x : Flags) : x.toByte &&& 0xF0 = x.toByte := by
  rcases x with ⟨_|_, _|_, _|_, _|_⟩ <;> rfl

@[simp] theorem Flags.ofByte_toByte (x : Flags) : Flags.ofByte x.toByte = x := by
  rcases x with ⟨_|_, _|_, _|_, _|_⟩ <;> rfl

/-! ## Register changes -/

/-- The register changes that an instruction of a format may make to F, SP and PC, from `g` to `g'`. -/
structure RegsAllowed (f : Form) (g' g : Regs) : Prop where
  flags : writesF f = false → g'.f = g.f
  sp : writesSp f = false → g'.sp = g.sp
  pc : writesPc f = false → g'.pc = g.pc
  lowNibble : g.f &&& 0x0F = 0 → g'.f &&& 0x0F = 0
  carry : ∀ n r, f = .bit n r → g'.f.getLsbD 4 = g.f.getLsbD 4

theorem RegsAllowed.of_same {f : Form} {g' g : Regs} (hf : g'.f = g.f) (hsp : g'.sp = g.sp) (hpc : g'.pc = g.pc) :
    RegsAllowed f g' g :=
  ⟨fun _ => hf, fun _ => hsp, fun _ => hpc, fun h => by rw [hf]; exact h, fun _ _ _ => by rw [hf]⟩

theorem RegsAllowed.trans {f : Form} {g'' g' g : Regs} (h : RegsAllowed f g'' g') (h' : RegsAllowed f g' g) :
    RegsAllowed f g'' g :=
  ⟨fun e => (h.flags e).trans (h'.flags e), fun e => (h.sp e).trans (h'.sp e), fun e => (h.pc e).trans (h'.pc e),
    fun e => h.lowNibble (h'.lowNibble e), fun n r e => (h.carry n r e).trans (h'.carry n r e)⟩

theorem RegsAllowed.of_alu (op : AluOp) (src : Rank) (x : AluResult) (g : Regs) :
    RegsAllowed (.alu op src) (g.setAluResult op x) g := by
  refine ⟨fun h => by simp [writesF] at h, ?_, ?_, fun _ => ?_, fun n r h => by simp at h⟩
  · cases op <;> exact fun _ => rfl
  · cases op <;> exact fun _ => rfl
  · cases op <;> exact and_F0_and_0F _

theorem RegsAllowed.of_ldPair (dst : Dest16) (d16 v : Addr) (g : Regs) : RegsAllowed (.ldPair dst d16) (g.setDest16 dst v) g := by
  cases dst
  case sp => exact ⟨fun _ => rfl, fun h => by simp [writesSp] at h, fun _ => rfl, fun h => h, fun n r h => by simp at h⟩
  all_goals exact .of_same rfl rfl rfl

theorem RegsAllowed.of_pop (q : Pair) (v : Addr) (g : Regs) : RegsAllowed (.pop q) (g.setPair q v) g := by
  cases q
  case af => exact ⟨fun h => by simp [writesF] at h, fun _ => rfl, fun _ => rfl, fun _ => and_F0_and_0F _, fun n r h => by simp at h⟩
  all_goals exact .of_same rfl rfl rfl

theorem RegsAllowed.of_bit (n : Fin 8) (r : Rank) (b : Byte) (g : Regs) :
    RegsAllowed (.bit n r) (g.setFlags (bitTestFlags n b g.flags)) g := by
  refine ⟨fun h => by simp [writesF] at h, fun _ => rfl, fun _ => rfl, fun _ => and_F0_and_0F _, fun _ _ _ => ?_⟩
  have h : Flags.ofByte ((bitTestFlags n b g.flags).toByte &&& 0xF0) = bitTestFlags n b g.flags := by
    rw [Flags.toByte_and_F0, Flags.ofByte_toByte]
  exact congrArg Flags.c h

theorem RegsAllowed.of_sp {f : Form} (hs : writesSp f = true) (hb : ∀ n r, f ≠ .bit n r) (v : Addr) (g : Regs) :
    RegsAllowed f { g with sp := v } g :=
  ⟨fun _ => rfl, fun h => absurd (hs.symm.trans h) (by decide), fun _ => rfl, fun h => h, fun n r h => absurd h (hb n r)⟩

theorem RegsAllowed.of_pc {f : Form} (hp : writesPc f = true) (hb : ∀ n r, f ≠ .bit n r) (v : Addr) (g : Regs) :
    RegsAllowed f { g with pc := v } g :=
  ⟨fun _ => rfl, fun _ => rfl, fun h => absurd (hp.symm.trans h) (by decide), fun h => h, fun n r h => absurd h (hb n r)⟩

theorem indirectAfter_same (m : IndMode) (a : Addr) (g : Regs) :
    (indirectAfter m a g).f = g.f ∧ (indirectAfter m a g).sp = g.sp ∧ (indirectAfter m a g).pc = g.pc := by
  cases m <;> exact ⟨rfl, rfl, rfl⟩

/-! ## Properties that an instruction keeps -/

/-- `P`, and `Q` of a fault, survive each thing that an instruction of a format can do from the state `s₀`. -/
structure KeptBy (f : Form) (s₀ : State) (P : State → Prop) (Q : Fault → Prop) : Prop where
  hooks : ∀ n s, P s → P (addHooks n s)
  write : ∀ a v s t, a ∈ storeTargets f s₀ → P s → routerWrite a v s = .ok t → P t
  readError : ∀ a s e, P s → routerRead a s = .error e → Q e
  writeError : ∀ a v s e, P s → routerWrite a v s = .error e → Q e
  regs : ∀ g s, RegsAllowed f g s.regs → P s → P (s.setRegs g)
  fault : ∀ e s, P s → Q e → P (takeFault e s)
  halt : f = .halt → ∀ s, P s → P { s with status := .halted }

section Keeps

variable {f : Form} {s₀ s : State} {P : State → Prop} {Q : Fault → Prop}

theorem readByte_keeps (c : KeptBy f s₀ P Q) (a : Addr) (h : P s) : (readByte a s).Ends (fun t => P t ∧ t.regs = s.regs) Q :=
  readByte_ends a (fun _ => ⟨c.hooks _ _ h, rfl⟩) fun _ he => c.readError _ _ _ h he

theorem writeByte_keeps (c : KeptBy f s₀ P Q) (a : Addr) (v : Byte) (h : P s) (ha : a ∈ storeTargets f s₀) :
    (writeByte a v s).Ends (fun t => P t ∧ t.regs = s.regs) Q :=
  writeByte_ends a v (fun _ ht => ⟨c.hooks _ _ (c.write _ _ _ _ ha h ht), (routerWrite_frame ht).1⟩)
    fun _ he => ⟨⟨c.hooks _ _ h, rfl⟩, c.writeError _ _ _ _ h he⟩

theorem readOperand_keeps (c : KeptBy f s₀ P Q) (r : Rank) (h : P s) :
    (readOperand r s).Ends (fun t => P t ∧ t.regs = s.regs) Q := by
  cases r <;> first | exact readByte_keeps c _ h | exact (⟨h, rfl⟩ : P s ∧ s.regs = s.regs)

theorem writeOperand_keeps (c : KeptBy f s₀ P Q) (r : Rank) (v : Byte) (h : P s)
    (ha : r = .hlInd → s.regs.hl ∈ storeTargets f s₀) : (writeOperand r v s).Ends P Q := by
  cases r
  case hlInd => exact ends_mono (writeByte_keeps c s.regs.hl v h (ha rfl)) fun _ h => h.1
  all_goals exact c.regs _ _ (.of_same rfl rfl rfl) h

theorem push_keeps (c : KeptBy f s₀ P Q) (v : Addr) (h : P s) (h1 : s.regs.sp - 2 ∈ storeTargets f s₀)
    (h2 : s.regs.sp - 2 + 1 ∈ storeTargets f s₀) (hs : writesSp f = true) (hb : ∀ n r, f ≠ .bit n r) :
    (push v s).Ends P Q := by
  have hp : P (s.setSp (s.regs.sp - 2)) := c.regs _ s (.of_sp hs hb _ _) h
  show (Result.bind (writeWord _ _ _) _).Ends P Q
  refine ends_bind (P := P) ?_ fun _ s h => c.hooks 1 s h
  unfold writeWord
  refine ends_bind (P := P) (ends_mono (writeByte_keeps c _ _ hp h1) fun _ h => h.1) fun _ s h => ?_
  exact ends_mono (writeByte_keeps c _ _ h h2) fun _ h => h.1

theorem pop_keeps (c : KeptBy f s₀ P Q) (h : P s) (hs : writesSp f = true) (hb : ∀ n r, f ≠ .bit n r) :
    (pop s).Ends P Q := by
  show (Result.bind (readWord _ _) _).Ends P Q
  refine ends_bind (P := P) ?_ fun _ s h => c.regs _ s (.of_sp hs hb _ _) h
  unfold readWord
  refine ends_bind (P := P) (ends_mono (readByte_keeps c _ h) fun _ h => h.1) fun _ s h => ?_
  exact ends_bind (P := P) (ends_mono (readByte_keeps c _ h) fun _ h => h.1) fun _ _ h => h

theorem setPc_keeps (c : KeptBy f s₀ P Q) (t : Addr) (h : P s) (hp : writesPc f = true) (hb : ∀ n r, f ≠ .bit n r) :
    P (s.setPc t) :=
  c.regs _ s (.of_pc hp hb _ _) h

theorem outcome_keeps (c : KeptBy f s₀ P Q) {r : Result Unit} (h : r.Ends P Q) : ∃ t, r.outcome = .next t ∧ P t :=
  ends_outcome h fun e s hp hq => c.fault e s hp hq

/-- Every instruction answers a next state, and keeps what its format's steps keep. -/
theorem execForm_keeps (c : KeptBy f s₀ P Q) (h : P s₀) : ∃ t, execForm f s₀ = .next t ∧ P t := by
  have fst : ∀ t : State, P t ∧ t.regs = s₀.regs → P t := fun _ h => h.1
  cases f with
  | nop => exact ⟨_, rfl, h⟩
  | halt => exact ⟨_, rfl, c.halt rfl _ h⟩
  | ld dst src =>
    refine outcome_keeps c (ends_seq (readOperand_keeps c src h) fst fun v s hs => writeOperand_keeps c dst v hs.1 fun e => ?_)
    subst e; rw [hs.2]; simp [storeTargets]
  | ldImm dst d8 => exact outcome_keeps c (writeOperand_keeps c dst d8 h fun e => by subst e; simp [storeTargets])
  | storeInd m =>
    refine outcome_keeps c (ends_seq (writeByte_keeps c _ _ h (by simp [storeTargets])) fst fun v s hs => ?_)
    have := indirectAfter_same m (indirectAddr m s₀.regs) s.regs
    exact c.regs _ _ (.of_same this.1 this.2.1 this.2.2) hs.1
  | loadInd m =>
    refine outcome_keeps c (ends_seq (readByte_keeps c _ h) fst fun v s hs => ?_)
    have := indirectAfter_same m (indirectAddr m s₀.regs) { s.regs with a := v }
    exact c.regs _ _ (.of_same this.1 this.2.1 this.2.2) hs.1
  | storeHigh a8 => exact outcome_keeps c (ends_mono (writeByte_keeps c _ _ h (by simp [storeTargets])) fst)
  | storeHighC => exact outcome_keeps c (ends_mono (writeByte_keeps c _ _ h (by simp [storeTargets])) fst)
  | loadHigh a8 =>
    exact outcome_keeps c (ends_seq (readByte_keeps c _ h) fst fun v s hs => c.regs _ _ (.of_same rfl rfl rfl) hs.1)
  | loadHighC =>
    exact outcome_keeps c (ends_seq (readByte_keeps c _ h) fst fun v s hs => c.regs _ _ (.of_same rfl rfl rfl) hs.1)
  | alu op src =>
    exact outcome_keeps c (ends_seq (readOperand_keeps c src h) fst fun v s hs => c.regs _ _ (.of_alu _ _ _ _) hs.1)
  | ldPair dst d16 => exact ⟨_, rfl, c.regs _ _ (.of_ldPair _ _ _ _) h⟩
  | push q => exact outcome_keeps c (push_keeps c _ h (by simp [storeTargets]) (by simp [storeTargets]) rfl (by simp))
  | pop q => exact outcome_keeps c (ends_bind (pop_keeps c h rfl (by simp)) fun v s hs => c.regs _ _ (.of_pop _ _ _) hs)
  | jr e8 => exact ⟨_, rfl, c.hooks 1 _ (setPc_keeps c _ h rfl (by simp))⟩
  | jrCond cc e8 =>
    simp only [execForm, jumpRelativeIf]
    split
    · exact ⟨_, rfl, c.hooks 1 _ (setPc_keeps c _ h rfl (by simp))⟩
    · exact ⟨_, rfl, h⟩
  | call a16 =>
    exact outcome_keeps c (ends_bind (push_keeps c _ h (by simp [storeTargets]) (by simp [storeTargets]) rfl (by simp))
      fun v s hs => setPc_keeps c _ hs rfl (by simp))
  | ret =>
    exact outcome_keeps c (ends_bind (pop_keeps c h rfl (by simp)) fun v s hs => c.hooks 1 _ (setPc_keeps c _ hs rfl (by simp)))
  | bit n r =>
    exact outcome_keeps c (ends_seq (readOperand_keeps c r h) fst fun v s hs => c.regs _ _ (.of_bit _ _ _ _) hs.1)
  | res n r =>
    refine outcome_keeps c (ends_seq (readOperand_keeps c r h) fst fun v s hs => writeOperand_keeps c r _ hs.1 fun e => ?_)
    subst e; rw [hs.2]; simp [storeTargets]
  | set n r =>
    refine outcome_keeps c (ends_seq (readOperand_keeps c r h) fst fun v s hs => writeOperand_keeps c r _ hs.1 fun e => ?_)
    subst e; rw [hs.2]; simp [storeTargets]

end Keeps

end Sys2Proof.Machine
end

