-- ==== Sys2Proof/Laws/Fetch.lean ====
section
/-! SUPPORT. Fetching one byte and going on, and what every fetch keeps. -/

namespace Sys2Proof.Machine

theorem fetch8_of_ok {s : State} {v : Byte} (h : routerRead s.regs.pc s = .ok v) :
    fetch8 s = .ok v ((addHooks 1 s).setPc (s.regs.pc + 1)) := by
  unfold fetch8; rw [readByte_of_ok h]; rfl

theorem fetch8_of_error {s : State} {f : Fault} (h : routerRead s.regs.pc s = .error f) :
    fetch8 s = .fault f (addHooks 1 s) := by
  unfold fetch8; rw [readByte_of_error h]; rfl

/-- The bytes fetched so far and the next one decode. -/
theorem fetchMore_decoded (n : Nat) {got : List Byte} {s : State} {v : Byte} {i : Instr} {rest : List Byte}
    (h : routerRead s.regs.pc s = .ok v) (hd : decode s.params (got ++ [v]) = .ok (i, rest)) :
    fetchMore (n + 1) got s = .ok i ((addHooks 1 s).setPc (s.regs.pc + 1)) := by
  show (fetch8 s).bind _ = _
  rw [fetch8_of_ok h, bind_ok]
  simp only [setPc_params, addHooks_params, hd]

/-- The bytes fetched so far and the next one are no instruction. -/
theorem fetchMore_unknown (n : Nat) {got bytes : List Byte} {s : State} {v : Byte}
    (h : routerRead s.regs.pc s = .ok v) (hd : decode s.params (got ++ [v]) = .error (.unknownOpcode bytes)) :
    fetchMore (n + 1) got s = .fault (.unknownOpcode bytes) ((addHooks 1 s).setPc (s.regs.pc + 1)) := by
  show (fetch8 s).bind _ = _
  rw [fetch8_of_ok h, bind_ok]
  simp only [setPc_params, addHooks_params, hd]

/-- The bytes fetched so far and the next one ask for more. -/
theorem fetchMore_truncated (n : Nat) {got : List Byte} {s : State} {v : Byte}
    (h : routerRead s.regs.pc s = .ok v) (hd : decode s.params (got ++ [v]) = .error .truncated) :
    fetchMore (n + 1) got s = fetchMore n (got ++ [v]) ((addHooks 1 s).setPc (s.regs.pc + 1)) := by
  show (fetch8 s).bind _ = _
  rw [fetch8_of_ok h, bind_ok]
  simp only [setPc_params, addHooks_params, hd]

/-- The next byte cannot be read. -/
theorem fetchMore_of_error (n : Nat) (got : List Byte) {s : State} {f : Fault} (h : routerRead s.regs.pc s = .error f) :
    fetchMore (n + 1) got s = .fault f (addHooks 1 s) := by
  show (fetch8 s).bind _ = _
  rw [fetch8_of_error h]
  rfl

theorem step_of_running {s : State} (h : s.status = .running) : step s = runFetched (fetchMore 3 [] s) := by
  unfold step; rw [h]; rfl

/-- What the hook and PC leave alone, a fetch keeps. -/
theorem fetchMore_ends {P : State → Prop} {Q : Fault → Prop} (hooks : ∀ n s, P s → P (addHooks n s))
    (pc : ∀ v s, P s → P (s.setPc v)) (readError : ∀ a s f, P s → routerRead a s = .error f → Q f)
    (unknown : ∀ bytes, Q (.unknownOpcode bytes)) :
    ∀ (n : Nat) (got : List Byte) (s : State), P s → (fetchMore n got s).Ends P Q
  | 0, _, _, h => ⟨h, unknown _⟩
  | n + 1, got, s, h => by
    unfold fetchMore
    refine ends_bind (P := P) ?_ fun v s h => ?_
    · unfold fetch8
      exact ends_bind (readByte_ends _ (fun n => hooks _ _ h) fun f hf => readError _ _ _ h hf) fun v s h => pc _ _ h
    · split
      · exact h
      · exact ⟨h, unknown _⟩
      · exact fetchMore_ends hooks pc readError unknown n _ s h

/-- What a fetch and every instruction keep, a step keeps; and every step answers a next state. -/
theorem step_keeps {P : State → Prop} {Q : Fault → Prop} (hooks : ∀ n s, P s → P (addHooks n s))
    (pc : ∀ v s, P s → P (s.setPc v)) (readError : ∀ a s f, P s → routerRead a s = .error f → Q f)
    (unknown : ∀ bytes, Q (.unknownOpcode bytes)) (fault : ∀ f s, P s → Q f → P (takeFault f s))
    (instr : ∀ i s, P s → ∃ t, exec i s = .next t ∧ P t) {s : State} (h : P s) : ∃ t, step s = .next t ∧ P t := by
  unfold step
  split
  · unfold fetchInstr
    have := fetchMore_ends hooks pc readError unknown 3 [] s h
    cases hq : fetchMore 3 [] s with
    | ok i s' => rw [hq] at this; exact instr i s' this
    | fault f s' => rw [hq] at this; exact ⟨_, rfl, fault _ _ this.1 this.2⟩
  · exact ⟨_, rfl, h⟩
  · exact ⟨_, rfl, h⟩

end Sys2Proof.Machine
end

