-- ==== Sys2Proof/Laws/PerInstr.lean ====
section
/-! SUPPORT. Statements made for each instruction, one lemma a constructor: the row of an instruction's format is that instruction. -/

namespace Sys2Proof.Laws.FormNamesRow

/-- The format and operand fields of an instruction name its row and no other (30_encoding.md R134, R137). -/
def Statement (i : Instr) : Prop := ∀ j : Instr, j.form = i.form ↔ j = i

theorem nop : Statement .nop := Instr.form_eq_iff _
theorem ldBC_D16 (d16 : Addr) : Statement (.ldBC_D16 d16) := Instr.form_eq_iff _
theorem ldIndBC_A : Statement .ldIndBC_A := Instr.form_eq_iff _
theorem ldB_D8 (d8 : Byte) : Statement (.ldB_D8 d8) := Instr.form_eq_iff _
theorem ldA_IndBC : Statement .ldA_IndBC := Instr.form_eq_iff _
theorem ldC_D8 (d8 : Byte) : Statement (.ldC_D8 d8) := Instr.form_eq_iff _
theorem ldDE_D16 (d16 : Addr) : Statement (.ldDE_D16 d16) := Instr.form_eq_iff _
theorem ldIndDE_A : Statement .ldIndDE_A := Instr.form_eq_iff _
theorem ldD_D8 (d8 : Byte) : Statement (.ldD_D8 d8) := Instr.form_eq_iff _
theorem jr (e8 : Byte) : Statement (.jr e8) := Instr.form_eq_iff _
theorem ldA_IndDE : Statement .ldA_IndDE := Instr.form_eq_iff _
theorem ldE_D8 (d8 : Byte) : Statement (.ldE_D8 d8) := Instr.form_eq_iff _
theorem jrNZ (e8 : Byte) : Statement (.jrNZ e8) := Instr.form_eq_iff _
theorem ldHL_D16 (d16 : Addr) : Statement (.ldHL_D16 d16) := Instr.form_eq_iff _
theorem ldIndHLInc_A : Statement .ldIndHLInc_A := Instr.form_eq_iff _
theorem ldH_D8 (d8 : Byte) : Statement (.ldH_D8 d8) := Instr.form_eq_iff _
theorem jrZ (e8 : Byte) : Statement (.jrZ e8) := Instr.form_eq_iff _
theorem ldA_IndHLInc : Statement .ldA_IndHLInc := Instr.form_eq_iff _
theorem ldL_D8 (d8 : Byte) : Statement (.ldL_D8 d8) := Instr.form_eq_iff _
theorem jrNC (e8 : Byte) : Statement (.jrNC e8) := Instr.form_eq_iff _
theorem ldSP_D16 (d16 : Addr) : Statement (.ldSP_D16 d16) := Instr.form_eq_iff _
theorem ldIndHLDec_A : Statement .ldIndHLDec_A := Instr.form_eq_iff _
theorem ldIndHL_D8 (d8 : Byte) : Statement (.ldIndHL_D8 d8) := Instr.form_eq_iff _
theorem jrC (e8 : Byte) : Statement (.jrC e8) := Instr.form_eq_iff _
theorem ldA_IndHLDec : Statement .ldA_IndHLDec := Instr.form_eq_iff _
theorem ldA_D8 (d8 : Byte) : Statement (.ldA_D8 d8) := Instr.form_eq_iff _
theorem ldB_B : Statement .ldB_B := Instr.form_eq_iff _
theorem ldB_C : Statement .ldB_C := Instr.form_eq_iff _
theorem ldB_D : Statement .ldB_D := Instr.form_eq_iff _
theorem ldB_E : Statement .ldB_E := Instr.form_eq_iff _
theorem ldB_H : Statement .ldB_H := Instr.form_eq_iff _
theorem ldB_L : Statement .ldB_L := Instr.form_eq_iff _
theorem ldB_IndHL : Statement .ldB_IndHL := Instr.form_eq_iff _
theorem ldB_A : Statement .ldB_A := Instr.form_eq_iff _
theorem ldC_B : Statement .ldC_B := Instr.form_eq_iff _
theorem ldC_C : Statement .ldC_C := Instr.form_eq_iff _
theorem ldC_D : Statement .ldC_D := Instr.form_eq_iff _
theorem ldC_E : Statement .ldC_E := Instr.form_eq_iff _
theorem ldC_H : Statement .ldC_H := Instr.form_eq_iff _
theorem ldC_L : Statement .ldC_L := Instr.form_eq_iff _
theorem ldC_IndHL : Statement .ldC_IndHL := Instr.form_eq_iff _
theorem ldC_A : Statement .ldC_A := Instr.form_eq_iff _
theorem ldD_B : Statement .ldD_B := Instr.form_eq_iff _
theorem ldD_C : Statement .ldD_C := Instr.form_eq_iff _
theorem ldD_D : Statement .ldD_D := Instr.form_eq_iff _
theorem ldD_E : Statement .ldD_E := Instr.form_eq_iff _
theorem ldD_H : Statement .ldD_H := Instr.form_eq_iff _
theorem ldD_L : Statement .ldD_L := Instr.form_eq_iff _
theorem ldD_IndHL : Statement .ldD_IndHL := Instr.form_eq_iff _
theorem ldD_A : Statement .ldD_A := Instr.form_eq_iff _
theorem ldE_B : Statement .ldE_B := Instr.form_eq_iff _
theorem ldE_C : Statement .ldE_C := Instr.form_eq_iff _
theorem ldE_D : Statement .ldE_D := Instr.form_eq_iff _
theorem ldE_E : Statement .ldE_E := Instr.form_eq_iff _
theorem ldE_H : Statement .ldE_H := Instr.form_eq_iff _
theorem ldE_L : Statement .ldE_L := Instr.form_eq_iff _
theorem ldE_IndHL : Statement .ldE_IndHL := Instr.form_eq_iff _
theorem ldE_A : Statement .ldE_A := Instr.form_eq_iff _
theorem ldH_B : Statement .ldH_B := Instr.form_eq_iff _
theorem ldH_C : Statement .ldH_C := Instr.form_eq_iff _
theorem ldH_D : Statement .ldH_D := Instr.form_eq_iff _
theorem ldH_E : Statement .ldH_E := Instr.form_eq_iff _
theorem ldH_H : Statement .ldH_H := Instr.form_eq_iff _
theorem ldH_L : Statement .ldH_L := Instr.form_eq_iff _
theorem ldH_IndHL : Statement .ldH_IndHL := Instr.form_eq_iff _
theorem ldH_A : Statement .ldH_A := Instr.form_eq_iff _
theorem ldL_B : Statement .ldL_B := Instr.form_eq_iff _
theorem ldL_C : Statement .ldL_C := Instr.form_eq_iff _
theorem ldL_D : Statement .ldL_D := Instr.form_eq_iff _
theorem ldL_E : Statement .ldL_E := Instr.form_eq_iff _
theorem ldL_H : Statement .ldL_H := Instr.form_eq_iff _
theorem ldL_L : Statement .ldL_L := Instr.form_eq_iff _
theorem ldL_IndHL : Statement .ldL_IndHL := Instr.form_eq_iff _
theorem ldL_A : Statement .ldL_A := Instr.form_eq_iff _
theorem ldIndHL_B : Statement .ldIndHL_B := Instr.form_eq_iff _
theorem ldIndHL_C : Statement .ldIndHL_C := Instr.form_eq_iff _
theorem ldIndHL_D : Statement .ldIndHL_D := Instr.form_eq_iff _
theorem ldIndHL_E : Statement .ldIndHL_E := Instr.form_eq_iff _
theorem ldIndHL_H : Statement .ldIndHL_H := Instr.form_eq_iff _
theorem ldIndHL_L : Statement .ldIndHL_L := Instr.form_eq_iff _
theorem halt : Statement .halt := Instr.form_eq_iff _
theorem ldIndHL_A : Statement .ldIndHL_A := Instr.form_eq_iff _
theorem ldA_B : Statement .ldA_B := Instr.form_eq_iff _
theorem ldA_C : Statement .ldA_C := Instr.form_eq_iff _
theorem ldA_D : Statement .ldA_D := Instr.form_eq_iff _
theorem ldA_E : Statement .ldA_E := Instr.form_eq_iff _
theorem ldA_H : Statement .ldA_H := Instr.form_eq_iff _
theorem ldA_L : Statement .ldA_L := Instr.form_eq_iff _
theorem ldA_IndHL : Statement .ldA_IndHL := Instr.form_eq_iff _
theorem ldA_A : Statement .ldA_A := Instr.form_eq_iff _
theorem addA_B : Statement .addA_B := Instr.form_eq_iff _
theorem addA_C : Statement .addA_C := Instr.form_eq_iff _
theorem addA_D : Statement .addA_D := Instr.form_eq_iff _
theorem addA_E : Statement .addA_E := Instr.form_eq_iff _
theorem addA_H : Statement .addA_H := Instr.form_eq_iff _
theorem addA_L : Statement .addA_L := Instr.form_eq_iff _
theorem addA_IndHL : Statement .addA_IndHL := Instr.form_eq_iff _
theorem addA_A : Statement .addA_A := Instr.form_eq_iff _
theorem adcA_B : Statement .adcA_B := Instr.form_eq_iff _
theorem adcA_C : Statement .adcA_C := Instr.form_eq_iff _
theorem adcA_D : Statement .adcA_D := Instr.form_eq_iff _
theorem adcA_E : Statement .adcA_E := Instr.form_eq_iff _
theorem adcA_H : Statement .adcA_H := Instr.form_eq_iff _
theorem adcA_L : Statement .adcA_L := Instr.form_eq_iff _
theorem adcA_IndHL : Statement .adcA_IndHL := Instr.form_eq_iff _
theorem adcA_A : Statement .adcA_A := Instr.form_eq_iff _
theorem sub_B : Statement .sub_B := Instr.form_eq_iff _
theorem sub_C : Statement .sub_C := Instr.form_eq_iff _
theorem sub_D : Statement .sub_D := Instr.form_eq_iff _
theorem sub_E : Statement .sub_E := Instr.form_eq_iff _
theorem sub_H : Statement .sub_H := Instr.form_eq_iff _
theorem sub_L : Statement .sub_L := Instr.form_eq_iff _
theorem sub_IndHL : Statement .sub_IndHL := Instr.form_eq_iff _
theorem sub_A : Statement .sub_A := Instr.form_eq_iff _
theorem sbcA_B : Statement .sbcA_B := Instr.form_eq_iff _
theorem sbcA_C : Statement .sbcA_C := Instr.form_eq_iff _
theorem sbcA_D : Statement .sbcA_D := Instr.form_eq_iff _
theorem sbcA_E : Statement .sbcA_E := Instr.form_eq_iff _
theorem sbcA_H : Statement .sbcA_H := Instr.form_eq_iff _
theorem sbcA_L : Statement .sbcA_L := Instr.form_eq_iff _
theorem sbcA_IndHL : Statement .sbcA_IndHL := Instr.form_eq_iff _
theorem sbcA_A : Statement .sbcA_A := Instr.form_eq_iff _
theorem and_B : Statement .and_B := Instr.form_eq_iff _
theorem and_C : Statement .and_C := Instr.form_eq_iff _
theorem and_D : Statement .and_D := Instr.form_eq_iff _
theorem and_E : Statement .and_E := Instr.form_eq_iff _
theorem and_H : Statement .and_H := Instr.form_eq_iff _
theorem and_L : Statement .and_L := Instr.form_eq_iff _
theorem and_IndHL : Statement .and_IndHL := Instr.form_eq_iff _
theorem and_A : Statement .and_A := Instr.form_eq_iff _
theorem xor_B : Statement .xor_B := Instr.form_eq_iff _
theorem xor_C : Statement .xor_C := Instr.form_eq_iff _
theorem xor_D : Statement .xor_D := Instr.form_eq_iff _
theorem xor_E : Statement .xor_E := Instr.form_eq_iff _
theorem xor_H : Statement .xor_H := Instr.form_eq_iff _
theorem xor_L : Statement .xor_L := Instr.form_eq_iff _
theorem xor_IndHL : Statement .xor_IndHL := Instr.form_eq_iff _
theorem xor_A : Statement .xor_A := Instr.form_eq_iff _
theorem or_B : Statement .or_B := Instr.form_eq_iff _
theorem or_C : Statement .or_C := Instr.form_eq_iff _
theorem or_D : Statement .or_D := Instr.form_eq_iff _
theorem or_E : Statement .or_E := Instr.form_eq_iff _
theorem or_H : Statement .or_H := Instr.form_eq_iff _
theorem or_L : Statement .or_L := Instr.form_eq_iff _
theorem or_IndHL : Statement .or_IndHL := Instr.form_eq_iff _
theorem or_A : Statement .or_A := Instr.form_eq_iff _
theorem cp_B : Statement .cp_B := Instr.form_eq_iff _
theorem cp_C : Statement .cp_C := Instr.form_eq_iff _
theorem cp_D : Statement .cp_D := Instr.form_eq_iff _
theorem cp_E : Statement .cp_E := Instr.form_eq_iff _
theorem cp_H : Statement .cp_H := Instr.form_eq_iff _
theorem cp_L : Statement .cp_L := Instr.form_eq_iff _
theorem cp_IndHL : Statement .cp_IndHL := Instr.form_eq_iff _
theorem cp_A : Statement .cp_A := Instr.form_eq_iff _
theorem popBC : Statement .popBC := Instr.form_eq_iff _
theorem pushBC : Statement .pushBC := Instr.form_eq_iff _
theorem ret : Statement .ret := Instr.form_eq_iff _
theorem call (a16 : Addr) : Statement (.call a16) := Instr.form_eq_iff _
theorem popDE : Statement .popDE := Instr.form_eq_iff _
theorem pushDE : Statement .pushDE := Instr.form_eq_iff _
theorem ldhIndA8_A (a8 : Byte) : Statement (.ldhIndA8_A a8) := Instr.form_eq_iff _
theorem popHL : Statement .popHL := Instr.form_eq_iff _
theorem ldIndC_A : Statement .ldIndC_A := Instr.form_eq_iff _
theorem pushHL : Statement .pushHL := Instr.form_eq_iff _
theorem ldhA_IndA8 (a8 : Byte) : Statement (.ldhA_IndA8 a8) := Instr.form_eq_iff _
theorem popAF : Statement .popAF := Instr.form_eq_iff _
theorem ldA_IndC : Statement .ldA_IndC := Instr.form_eq_iff _
theorem pushAF : Statement .pushAF := Instr.form_eq_iff _
theorem bit0_B : Statement .bit0_B := Instr.form_eq_iff _
theorem bit0_C : Statement .bit0_C := Instr.form_eq_iff _
theorem bit0_D : Statement .bit0_D := Instr.form_eq_iff _
theorem bit0_E : Statement .bit0_E := Instr.form_eq_iff _
theorem bit0_H : Statement .bit0_H := Instr.form_eq_iff _
theorem bit0_L : Statement .bit0_L := Instr.form_eq_iff _
theorem bit0_IndHL : Statement .bit0_IndHL := Instr.form_eq_iff _
theorem bit0_A : Statement .bit0_A := Instr.form_eq_iff _
theorem bit1_B : Statement .bit1_B := Instr.form_eq_iff _
theorem bit1_C : Statement .bit1_C := Instr.form_eq_iff _
theorem bit1_D : Statement .bit1_D := Instr.form_eq_iff _
theorem bit1_E : Statement .bit1_E := Instr.form_eq_iff _
theorem bit1_H : Statement .bit1_H := Instr.form_eq_iff _
theorem bit1_L : Statement .bit1_L := Instr.form_eq_iff _
theorem bit1_IndHL : Statement .bit1_IndHL := Instr.form_eq_iff _
theorem bit1_A : Statement .bit1_A := Instr.form_eq_iff _
theorem bit2_B : Statement .bit2_B := Instr.form_eq_iff _
theorem bit2_C : Statement .bit2_C := Instr.form_eq_iff _
theorem bit2_D : Statement .bit2_D := Instr.form_eq_iff _
theorem bit2_E : Statement .bit2_E := Instr.form_eq_iff _
theorem bit2_H : Statement .bit2_H := Instr.form_eq_iff _
theorem bit2_L : Statement .bit2_L := Instr.form_eq_iff _
theorem bit2_IndHL : Statement .bit2_IndHL := Instr.form_eq_iff _
theorem bit2_A : Statement .bit2_A := Instr.form_eq_iff _
theorem bit3_B : Statement .bit3_B := Instr.form_eq_iff _
theorem bit3_C : Statement .bit3_C := Instr.form_eq_iff _
theorem bit3_D : Statement .bit3_D := Instr.form_eq_iff _
theorem bit3_E : Statement .bit3_E := Instr.form_eq_iff _
theorem bit3_H : Statement .bit3_H := Instr.form_eq_iff _
theorem bit3_L : Statement .bit3_L := Instr.form_eq_iff _
theorem bit3_IndHL : Statement .bit3_IndHL := Instr.form_eq_iff _
theorem bit3_A : Statement .bit3_A := Instr.form_eq_iff _
theorem bit4_B : Statement .bit4_B := Instr.form_eq_iff _
theorem bit4_C : Statement .bit4_C := Instr.form_eq_iff _
theorem bit4_D : Statement .bit4_D := Instr.form_eq_iff _
theorem bit4_E : Statement .bit4_E := Instr.form_eq_iff _
theorem bit4_H : Statement .bit4_H := Instr.form_eq_iff _
theorem bit4_L : Statement .bit4_L := Instr.form_eq_iff _
theorem bit4_IndHL : Statement .bit4_IndHL := Instr.form_eq_iff _
theorem bit4_A : Statement .bit4_A := Instr.form_eq_iff _
theorem bit5_B : Statement .bit5_B := Instr.form_eq_iff _
theorem bit5_C : Statement .bit5_C := Instr.form_eq_iff _
theorem bit5_D : Statement .bit5_D := Instr.form_eq_iff _
theorem bit5_E : Statement .bit5_E := Instr.form_eq_iff _
theorem bit5_H : Statement .bit5_H := Instr.form_eq_iff _
theorem bit5_L : Statement .bit5_L := Instr.form_eq_iff _
theorem bit5_IndHL : Statement .bit5_IndHL := Instr.form_eq_iff _
theorem bit5_A : Statement .bit5_A := Instr.form_eq_iff _
theorem bit6_B : Statement .bit6_B := Instr.form_eq_iff _
theorem bit6_C : Statement .bit6_C := Instr.form_eq_iff _
theorem bit6_D : Statement .bit6_D := Instr.form_eq_iff _
theorem bit6_E : Statement .bit6_E := Instr.form_eq_iff _
theorem bit6_H : Statement .bit6_H := Instr.form_eq_iff _
theorem bit6_L : Statement .bit6_L := Instr.form_eq_iff _
theorem bit6_IndHL : Statement .bit6_IndHL := Instr.form_eq_iff _
theorem bit6_A : Statement .bit6_A := Instr.form_eq_iff _
theorem bit7_B : Statement .bit7_B := Instr.form_eq_iff _
theorem bit7_C : Statement .bit7_C := Instr.form_eq_iff _
theorem bit7_D : Statement .bit7_D := Instr.form_eq_iff _
theorem bit7_E : Statement .bit7_E := Instr.form_eq_iff _
theorem bit7_H : Statement .bit7_H := Instr.form_eq_iff _
theorem bit7_L : Statement .bit7_L := Instr.form_eq_iff _
theorem bit7_IndHL : Statement .bit7_IndHL := Instr.form_eq_iff _
theorem bit7_A : Statement .bit7_A := Instr.form_eq_iff _
theorem res0_B : Statement .res0_B := Instr.form_eq_iff _
theorem res0_C : Statement .res0_C := Instr.form_eq_iff _
theorem res0_D : Statement .res0_D := Instr.form_eq_iff _
theorem res0_E : Statement .res0_E := Instr.form_eq_iff _
theorem res0_H : Statement .res0_H := Instr.form_eq_iff _
theorem res0_L : Statement .res0_L := Instr.form_eq_iff _
theorem res0_IndHL : Statement .res0_IndHL := Instr.form_eq_iff _
theorem res0_A : Statement .res0_A := Instr.form_eq_iff _
theorem res1_B : Statement .res1_B := Instr.form_eq_iff _
theorem res1_C : Statement .res1_C := Instr.form_eq_iff _
theorem res1_D : Statement .res1_D := Instr.form_eq_iff _
theorem res1_E : Statement .res1_E := Instr.form_eq_iff _
theorem res1_H : Statement .res1_H := Instr.form_eq_iff _
theorem res1_L : Statement .res1_L := Instr.form_eq_iff _
theorem res1_IndHL : Statement .res1_IndHL := Instr.form_eq_iff _
theorem res1_A : Statement .res1_A := Instr.form_eq_iff _
theorem res2_B : Statement .res2_B := Instr.form_eq_iff _
theorem res2_C : Statement .res2_C := Instr.form_eq_iff _
theorem res2_D : Statement .res2_D := Instr.form_eq_iff _
theorem res2_E : Statement .res2_E := Instr.form_eq_iff _
theorem res2_H : Statement .res2_H := Instr.form_eq_iff _
theorem res2_L : Statement .res2_L := Instr.form_eq_iff _
theorem res2_IndHL : Statement .res2_IndHL := Instr.form_eq_iff _
theorem res2_A : Statement .res2_A := Instr.form_eq_iff _
theorem res3_B : Statement .res3_B := Instr.form_eq_iff _
theorem res3_C : Statement .res3_C := Instr.form_eq_iff _
theorem res3_D : Statement .res3_D := Instr.form_eq_iff _
theorem res3_E : Statement .res3_E := Instr.form_eq_iff _
theorem res3_H : Statement .res3_H := Instr.form_eq_iff _
theorem res3_L : Statement .res3_L := Instr.form_eq_iff _
theorem res3_IndHL : Statement .res3_IndHL := Instr.form_eq_iff _
theorem res3_A : Statement .res3_A := Instr.form_eq_iff _
theorem res4_B : Statement .res4_B := Instr.form_eq_iff _
theorem res4_C : Statement .res4_C := Instr.form_eq_iff _
theorem res4_D : Statement .res4_D := Instr.form_eq_iff _
theorem res4_E : Statement .res4_E := Instr.form_eq_iff _
theorem res4_H : Statement .res4_H := Instr.form_eq_iff _
theorem res4_L : Statement .res4_L := Instr.form_eq_iff _
theorem res4_IndHL : Statement .res4_IndHL := Instr.form_eq_iff _
theorem res4_A : Statement .res4_A := Instr.form_eq_iff _
theorem res5_B : Statement .res5_B := Instr.form_eq_iff _
theorem res5_C : Statement .res5_C := Instr.form_eq_iff _
theorem res5_D : Statement .res5_D := Instr.form_eq_iff _
theorem res5_E : Statement .res5_E := Instr.form_eq_iff _
theorem res5_H : Statement .res5_H := Instr.form_eq_iff _
theorem res5_L : Statement .res5_L := Instr.form_eq_iff _
theorem res5_IndHL : Statement .res5_IndHL := Instr.form_eq_iff _
theorem res5_A : Statement .res5_A := Instr.form_eq_iff _
theorem res6_B : Statement .res6_B := Instr.form_eq_iff _
theorem res6_C : Statement .res6_C := Instr.form_eq_iff _
theorem res6_D : Statement .res6_D := Instr.form_eq_iff _
theorem res6_E : Statement .res6_E := Instr.form_eq_iff _
theorem res6_H : Statement .res6_H := Instr.form_eq_iff _
theorem res6_L : Statement .res6_L := Instr.form_eq_iff _
theorem res6_IndHL : Statement .res6_IndHL := Instr.form_eq_iff _
theorem res6_A : Statement .res6_A := Instr.form_eq_iff _
theorem res7_B : Statement .res7_B := Instr.form_eq_iff _
theorem res7_C : Statement .res7_C := Instr.form_eq_iff _
theorem res7_D : Statement .res7_D := Instr.form_eq_iff _
theorem res7_E : Statement .res7_E := Instr.form_eq_iff _
theorem res7_H : Statement .res7_H := Instr.form_eq_iff _
theorem res7_L : Statement .res7_L := Instr.form_eq_iff _
theorem res7_IndHL : Statement .res7_IndHL := Instr.form_eq_iff _
theorem res7_A : Statement .res7_A := Instr.form_eq_iff _
theorem set0_B : Statement .set0_B := Instr.form_eq_iff _
theorem set0_C : Statement .set0_C := Instr.form_eq_iff _
theorem set0_D : Statement .set0_D := Instr.form_eq_iff _
theorem set0_E : Statement .set0_E := Instr.form_eq_iff _
theorem set0_H : Statement .set0_H := Instr.form_eq_iff _
theorem set0_L : Statement .set0_L := Instr.form_eq_iff _
theorem set0_IndHL : Statement .set0_IndHL := Instr.form_eq_iff _
theorem set0_A : Statement .set0_A := Instr.form_eq_iff _
theorem set1_B : Statement .set1_B := Instr.form_eq_iff _
theorem set1_C : Statement .set1_C := Instr.form_eq_iff _
theorem set1_D : Statement .set1_D := Instr.form_eq_iff _
theorem set1_E : Statement .set1_E := Instr.form_eq_iff _
theorem set1_H : Statement .set1_H := Instr.form_eq_iff _
theorem set1_L : Statement .set1_L := Instr.form_eq_iff _
theorem set1_IndHL : Statement .set1_IndHL := Instr.form_eq_iff _
theorem set1_A : Statement .set1_A := Instr.form_eq_iff _
theorem set2_B : Statement .set2_B := Instr.form_eq_iff _
theorem set2_C : Statement .set2_C := Instr.form_eq_iff _
theorem set2_D : Statement .set2_D := Instr.form_eq_iff _
theorem set2_E : Statement .set2_E := Instr.form_eq_iff _
theorem set2_H : Statement .set2_H := Instr.form_eq_iff _
theorem set2_L : Statement .set2_L := Instr.form_eq_iff _
theorem set2_IndHL : Statement .set2_IndHL := Instr.form_eq_iff _
theorem set2_A : Statement .set2_A := Instr.form_eq_iff _
theorem set3_B : Statement .set3_B := Instr.form_eq_iff _
theorem set3_C : Statement .set3_C := Instr.form_eq_iff _
theorem set3_D : Statement .set3_D := Instr.form_eq_iff _
theorem set3_E : Statement .set3_E := Instr.form_eq_iff _
theorem set3_H : Statement .set3_H := Instr.form_eq_iff _
theorem set3_L : Statement .set3_L := Instr.form_eq_iff _
theorem set3_IndHL : Statement .set3_IndHL := Instr.form_eq_iff _
theorem set3_A : Statement .set3_A := Instr.form_eq_iff _
theorem set4_B : Statement .set4_B := Instr.form_eq_iff _
theorem set4_C : Statement .set4_C := Instr.form_eq_iff _
theorem set4_D : Statement .set4_D := Instr.form_eq_iff _
theorem set4_E : Statement .set4_E := Instr.form_eq_iff _
theorem set4_H : Statement .set4_H := Instr.form_eq_iff _
theorem set4_L : Statement .set4_L := Instr.form_eq_iff _
theorem set4_IndHL : Statement .set4_IndHL := Instr.form_eq_iff _
theorem set4_A : Statement .set4_A := Instr.form_eq_iff _
theorem set5_B : Statement .set5_B := Instr.form_eq_iff _
theorem set5_C : Statement .set5_C := Instr.form_eq_iff _
theorem set5_D : Statement .set5_D := Instr.form_eq_iff _
theorem set5_E : Statement .set5_E := Instr.form_eq_iff _
theorem set5_H : Statement .set5_H := Instr.form_eq_iff _
theorem set5_L : Statement .set5_L := Instr.form_eq_iff _
theorem set5_IndHL : Statement .set5_IndHL := Instr.form_eq_iff _
theorem set5_A : Statement .set5_A := Instr.form_eq_iff _
theorem set6_B : Statement .set6_B := Instr.form_eq_iff _
theorem set6_C : Statement .set6_C := Instr.form_eq_iff _
theorem set6_D : Statement .set6_D := Instr.form_eq_iff _
theorem set6_E : Statement .set6_E := Instr.form_eq_iff _
theorem set6_H : Statement .set6_H := Instr.form_eq_iff _
theorem set6_L : Statement .set6_L := Instr.form_eq_iff _
theorem set6_IndHL : Statement .set6_IndHL := Instr.form_eq_iff _
theorem set6_A : Statement .set6_A := Instr.form_eq_iff _
theorem set7_B : Statement .set7_B := Instr.form_eq_iff _
theorem set7_C : Statement .set7_C := Instr.form_eq_iff _
theorem set7_D : Statement .set7_D := Instr.form_eq_iff _
theorem set7_E : Statement .set7_E := Instr.form_eq_iff _
theorem set7_H : Statement .set7_H := Instr.form_eq_iff _
theorem set7_L : Statement .set7_L := Instr.form_eq_iff _
theorem set7_IndHL : Statement .set7_IndHL := Instr.form_eq_iff _
theorem set7_A : Statement .set7_A := Instr.form_eq_iff _

end Sys2Proof.Laws.FormNamesRow
end

