-- ==== Sys2Proof/Tests/Slice0.lean ====
section
/-! SUPPORT. Tests: well-formedness refusing ill-formed terms, the decoding of every row of the opcode table from a word written out by its encoding, vectors of spec/95_test_vectors.md (named V-…), and a witness for the hypotheses of each obligation. -/

namespace Sys2Proof.Tests

open Sys2Proof.Machine

/-! ## Helpers -/

/-- A NoController's image of 32 KiB with bytes from an index on. -/
def imageAt (index : Nat) (bytes : List Byte) : Image :=
  { size := 0x8000, cells := (Image.ofBytes bytes).cells.map fun c => (c.1 + index, c.2) }

/-- A Console of NoController type with bytes at 0x0000 and the given registers. -/
def nc (bytes : List Byte) (g : Regs) : State :=
  { State.reset with cart := .noController (imageAt 0 bytes), regs := g }

/-- A Console of NoController type whose PC stands at the bytes. -/
def ncAt (pc : Nat) (bytes : List Byte) (g : Regs) : State :=
  { State.reset with cart := .noController (imageAt pc bytes), regs := { g with pc := BitVec.ofNat 16 pc } }

/-- A SwitchableBank's image of 32 KiB with bytes at 0x0000. -/
def bankImage (bytes : List Byte) : Image := { size := 0x8000, cells := Memory.write (imageAt 0 bytes).cells 0x147 0x01 }

/-- A SwitchableBank right after construction. -/
def bank : SwitchableBank :=
  { rom := bankImage [], ram := [], romBank := 1, ramBank := 0, mode := .romBanking, ramEnable := false }

/-- A Console of SwitchableBank type. -/
def mbc (m : SwitchableBank) : State := { State.reset with cart := .switchableBank m }

/-- The state with cells of the flat array or RAM written. -/
def withCells (cells : List (Addr × Byte)) (s : State) : State :=
  { s with flat := cells.foldl (fun m c => Memory.write m c.1.toNat c.2) s.flat }

/-- The reset registers. -/
abbrev r0 : Regs := Regs.reset

/-- Whether one step answers a next state that passes a test. -/
def steps (s : State) (test : State → Bool) : Bool :=
  match step s with
  | .next t => test t
  | .fault _ => false
  | .refused _ => false

/-- The byte that a read returns, none where it faults. -/
def byteAt (a : Addr) (s : State) : Option Byte :=
  match routerRead a s with
  | .ok v => some v
  | .error _ => none

/-- The state after a router write, or the state before it where the write faults. -/
def poke (a : Addr) (v : Byte) (s : State) : State :=
  match routerWrite a v s with
  | .ok t => t
  | .error _ => s

/-- The fault of a router write. -/
def pokeFault (a : Addr) (v : Byte) (s : State) : Option Fault :=
  match routerWrite a v s with
  | .ok _ => none
  | .error f => some f

/-- The fault of a router read. -/
def peekFault (a : Addr) (s : State) : Option Fault :=
  match routerRead a s with
  | .ok _ => none
  | .error f => some f

/-- The registers of a SwitchableBank: ROM bank, RAM bank, whether the mode is RAM banking, RAM enable. -/
def bankRegs (s : State) : Option (Nat × Nat × Bool × Bool) :=
  match s.cart with
  | .noController _ => none
  | .switchableBank m => some (m.romBank.toNat, m.ramBank.toNat, m.mode == .ramBanking, m.ramEnable)

/-! ## Well-formedness refuses ill-formed terms -/

/-- An instruction whose opcode the parameters take out. -/
theorem test_wf_instr_refuses : Instr.wf { Config.params with removedPrimary := [0xE2] } .ldIndC_A = false := by decide

theorem test_wf_instr_accepts : Instr.wf Config.params .ldIndC_A = true := by decide

/-- The prefix byte is always admitted (30_encoding.md R141). -/
theorem test_wf_instr_prefix : Instr.wf { Config.params with removedPrimary := [0xCB] } .bit7_H = true := by decide

/-- 0xC3 is no opcode of 30_encoding.md R134, so it cannot be taken out. -/
theorem test_wf_params_refuses : Params.wf { Config.params with removedPrimary := [0xE2, 0xC3] } = false := by decide

theorem test_wf_params_accepts : Params.wf { Config.params with removedPrimary := [0xE2] } = true := by decide

/-- A listed cell beyond the image. -/
theorem test_wf_image_refuses_beyond : Image.wf { size := 2, cells := [(2, 0x11)] } = false := by decide

/-- A listed cell that holds what an unlisted one reads as. -/
theorem test_wf_image_refuses_unlisted : Image.wf { size := 2, cells := [(1, 0x00)] } = false := by decide

theorem test_wf_image_accepts : Image.wf { size := 2, cells := [(1, 0x11)] } = true := by decide

/-- Addresses that do not rise. -/
theorem test_wf_memory_refuses_order : Memory.wf [(5, 0x11), (5, 0x12)] = false := by decide

theorem test_wf_memory_refuses_unlisted : Memory.wf [(5, 0x00)] = false := by decide

/-- A write keeps the form, and writing 0x00 removes the cell. -/
theorem test_wf_memory_write : Memory.write (Memory.write [(5, 0x11), (9, 0x12)] 7 0x13) 5 0x00 = [(7, 0x13), (9, 0x12)] := by
  decide

/-! ## Every row decodes from its word

Each word is the row's encoding in spec/opcode_table.json, its fixed bits as written there. -/

/-- Whether each word decodes to its instruction, with no byte left. -/
def decodes (table : List (List Byte × Instr)) : Bool :=
  table.all fun p => decide (decodeTable p.1 = some (p.2, []))
where
  decodeTable (bytes : List Byte) : Option (Instr × List Byte) :=
    match decode Config.params bytes with
    | .ok x => some x
    | .error _ => none

theorem test_decode_loads8_01 :
    decodes [
      ([0b00000010], .ldIndBC_A), ([0b00000110, 0xA5], .ldB_D8 0xA5), ([0b00001010], .ldA_IndBC), ([0b00001110, 0xA5], .ldC_D8 0xA5),
      ([0b00010010], .ldIndDE_A), ([0b00010110, 0xA5], .ldD_D8 0xA5), ([0b00011010], .ldA_IndDE), ([0b00011110, 0xA5], .ldE_D8 0xA5),
      ([0b00100010], .ldIndHLInc_A), ([0b00100110, 0xA5], .ldH_D8 0xA5), ([0b00101010], .ldA_IndHLInc), ([0b00101110, 0xA5], .ldL_D8 0xA5),
      ([0b00110010], .ldIndHLDec_A), ([0b00110110, 0xA5], .ldIndHL_D8 0xA5), ([0b00111010], .ldA_IndHLDec), ([0b00111110, 0xA5], .ldA_D8 0xA5)] = true := by
  decide

theorem test_decode_loads8_02 :
    decodes [
      ([0b01000000], .ldB_B), ([0b01000001], .ldB_C), ([0b01000010], .ldB_D), ([0b01000011], .ldB_E),
      ([0b01000100], .ldB_H), ([0b01000101], .ldB_L), ([0b01000110], .ldB_IndHL), ([0b01000111], .ldB_A),
      ([0b01001000], .ldC_B), ([0b01001001], .ldC_C), ([0b01001010], .ldC_D), ([0b01001011], .ldC_E),
      ([0b01001100], .ldC_H), ([0b01001101], .ldC_L), ([0b01001110], .ldC_IndHL), ([0b01001111], .ldC_A)] = true := by
  decide

theorem test_decode_loads8_03 :
    decodes [
      ([0b01010000], .ldD_B), ([0b01010001], .ldD_C), ([0b01010010], .ldD_D), ([0b01010011], .ldD_E),
      ([0b01010100], .ldD_H), ([0b01010101], .ldD_L), ([0b01010110], .ldD_IndHL), ([0b01010111], .ldD_A),
      ([0b01011000], .ldE_B), ([0b01011001], .ldE_C), ([0b01011010], .ldE_D), ([0b01011011], .ldE_E),
      ([0b01011100], .ldE_H), ([0b01011101], .ldE_L), ([0b01011110], .ldE_IndHL), ([0b01011111], .ldE_A)] = true := by
  decide

theorem test_decode_loads8_04 :
    decodes [
      ([0b01100000], .ldH_B), ([0b01100001], .ldH_C), ([0b01100010], .ldH_D), ([0b01100011], .ldH_E),
      ([0b01100100], .ldH_H), ([0b01100101], .ldH_L), ([0b01100110], .ldH_IndHL), ([0b01100111], .ldH_A),
      ([0b01101000], .ldL_B), ([0b01101001], .ldL_C), ([0b01101010], .ldL_D), ([0b01101011], .ldL_E),
      ([0b01101100], .ldL_H), ([0b01101101], .ldL_L), ([0b01101110], .ldL_IndHL), ([0b01101111], .ldL_A)] = true := by
  decide

theorem test_decode_loads8_05 :
    decodes [
      ([0b01110000], .ldIndHL_B), ([0b01110001], .ldIndHL_C), ([0b01110010], .ldIndHL_D), ([0b01110011], .ldIndHL_E),
      ([0b01110100], .ldIndHL_H), ([0b01110101], .ldIndHL_L), ([0b01110111], .ldIndHL_A), ([0b01111000], .ldA_B),
      ([0b01111001], .ldA_C), ([0b01111010], .ldA_D), ([0b01111011], .ldA_E), ([0b01111100], .ldA_H),
      ([0b01111101], .ldA_L), ([0b01111110], .ldA_IndHL), ([0b01111111], .ldA_A), ([0b11100000, 0x80], .ldhIndA8_A 0x80)] = true := by
  decide

theorem test_decode_loads8_06 :
    decodes [
      ([0b11100010], .ldIndC_A), ([0b11110000, 0x80], .ldhA_IndA8 0x80), ([0b11110010], .ldA_IndC)] = true := by
  decide

theorem test_decode_alu_01 :
    decodes [
      ([0b10000000], .addA_B), ([0b10000001], .addA_C), ([0b10000010], .addA_D), ([0b10000011], .addA_E),
      ([0b10000100], .addA_H), ([0b10000101], .addA_L), ([0b10000110], .addA_IndHL), ([0b10000111], .addA_A),
      ([0b10001000], .adcA_B), ([0b10001001], .adcA_C), ([0b10001010], .adcA_D), ([0b10001011], .adcA_E),
      ([0b10001100], .adcA_H), ([0b10001101], .adcA_L), ([0b10001110], .adcA_IndHL), ([0b10001111], .adcA_A)] = true := by
  decide

theorem test_decode_alu_02 :
    decodes [
      ([0b10010000], .sub_B), ([0b10010001], .sub_C), ([0b10010010], .sub_D), ([0b10010011], .sub_E),
      ([0b10010100], .sub_H), ([0b10010101], .sub_L), ([0b10010110], .sub_IndHL), ([0b10010111], .sub_A),
      ([0b10011000], .sbcA_B), ([0b10011001], .sbcA_C), ([0b10011010], .sbcA_D), ([0b10011011], .sbcA_E),
      ([0b10011100], .sbcA_H), ([0b10011101], .sbcA_L), ([0b10011110], .sbcA_IndHL), ([0b10011111], .sbcA_A)] = true := by
  decide

theorem test_decode_alu_03 :
    decodes [
      ([0b10100000], .and_B), ([0b10100001], .and_C), ([0b10100010], .and_D), ([0b10100011], .and_E),
      ([0b10100100], .and_H), ([0b10100101], .and_L), ([0b10100110], .and_IndHL), ([0b10100111], .and_A),
      ([0b10101000], .xor_B), ([0b10101001], .xor_C), ([0b10101010], .xor_D), ([0b10101011], .xor_E),
      ([0b10101100], .xor_H), ([0b10101101], .xor_L), ([0b10101110], .xor_IndHL), ([0b10101111], .xor_A)] = true := by
  decide

theorem test_decode_alu_04 :
    decodes [
      ([0b10110000], .or_B), ([0b10110001], .or_C), ([0b10110010], .or_D), ([0b10110011], .or_E),
      ([0b10110100], .or_H), ([0b10110101], .or_L), ([0b10110110], .or_IndHL), ([0b10110111], .or_A),
      ([0b10111000], .cp_B), ([0b10111001], .cp_C), ([0b10111010], .cp_D), ([0b10111011], .cp_E),
      ([0b10111100], .cp_H), ([0b10111101], .cp_L), ([0b10111110], .cp_IndHL), ([0b10111111], .cp_A)] = true := by
  decide

theorem test_decode_loads16_01 :
    decodes [
      ([0b00000001, 0x34, 0x12], .ldBC_D16 0x1234), ([0b00010001, 0x34, 0x12], .ldDE_D16 0x1234), ([0b00100001, 0x34, 0x12], .ldHL_D16 0x1234), ([0b00110001, 0x34, 0x12], .ldSP_D16 0x1234),
      ([0b11000001], .popBC), ([0b11000101], .pushBC), ([0b11010001], .popDE), ([0b11010101], .pushDE),
      ([0b11100001], .popHL), ([0b11100101], .pushHL), ([0b11110001], .popAF), ([0b11110101], .pushAF)] = true := by
  decide

theorem test_decode_control_01 :
    decodes [
      ([0b00000000], .nop), ([0b00011000, 0xFB], .jr 0xFB), ([0b00100000, 0xFB], .jrNZ 0xFB), ([0b00101000, 0xFB], .jrZ 0xFB),
      ([0b00110000, 0xFB], .jrNC 0xFB), ([0b00111000, 0xFB], .jrC 0xFB), ([0b01110110], .halt), ([0b11001001], .ret),
      ([0b11001101, 0x34, 0x12], .call 0x1234)] = true := by
  decide

theorem test_decode_extended_01 :
    decodes [
      ([0b11001011, 0b01000000], .bit0_B), ([0b11001011, 0b01000001], .bit0_C), ([0b11001011, 0b01000010], .bit0_D), ([0b11001011, 0b01000011], .bit0_E),
      ([0b11001011, 0b01000100], .bit0_H), ([0b11001011, 0b01000101], .bit0_L), ([0b11001011, 0b01000110], .bit0_IndHL), ([0b11001011, 0b01000111], .bit0_A),
      ([0b11001011, 0b01001000], .bit1_B), ([0b11001011, 0b01001001], .bit1_C), ([0b11001011, 0b01001010], .bit1_D), ([0b11001011, 0b01001011], .bit1_E),
      ([0b11001011, 0b01001100], .bit1_H), ([0b11001011, 0b01001101], .bit1_L), ([0b11001011, 0b01001110], .bit1_IndHL), ([0b11001011, 0b01001111], .bit1_A)] = true := by
  decide

theorem test_decode_extended_02 :
    decodes [
      ([0b11001011, 0b01010000], .bit2_B), ([0b11001011, 0b01010001], .bit2_C), ([0b11001011, 0b01010010], .bit2_D), ([0b11001011, 0b01010011], .bit2_E),
      ([0b11001011, 0b01010100], .bit2_H), ([0b11001011, 0b01010101], .bit2_L), ([0b11001011, 0b01010110], .bit2_IndHL), ([0b11001011, 0b01010111], .bit2_A),
      ([0b11001011, 0b01011000], .bit3_B), ([0b11001011, 0b01011001], .bit3_C), ([0b11001011, 0b01011010], .bit3_D), ([0b11001011, 0b01011011], .bit3_E),
      ([0b11001011, 0b01011100], .bit3_H), ([0b11001011, 0b01011101], .bit3_L), ([0b11001011, 0b01011110], .bit3_IndHL), ([0b11001011, 0b01011111], .bit3_A)] = true := by
  decide

theorem test_decode_extended_03 :
    decodes [
      ([0b11001011, 0b01100000], .bit4_B), ([0b11001011, 0b01100001], .bit4_C), ([0b11001011, 0b01100010], .bit4_D), ([0b11001011, 0b01100011], .bit4_E),
      ([0b11001011, 0b01100100], .bit4_H), ([0b11001011, 0b01100101], .bit4_L), ([0b11001011, 0b01100110], .bit4_IndHL), ([0b11001011, 0b01100111], .bit4_A),
      ([0b11001011, 0b01101000], .bit5_B), ([0b11001011, 0b01101001], .bit5_C), ([0b11001011, 0b01101010], .bit5_D), ([0b11001011, 0b01101011], .bit5_E),
      ([0b11001011, 0b01101100], .bit5_H), ([0b11001011, 0b01101101], .bit5_L), ([0b11001011, 0b01101110], .bit5_IndHL), ([0b11001011, 0b01101111], .bit5_A)] = true := by
  decide

theorem test_decode_extended_04 :
    decodes [
      ([0b11001011, 0b01110000], .bit6_B), ([0b11001011, 0b01110001], .bit6_C), ([0b11001011, 0b01110010], .bit6_D), ([0b11001011, 0b01110011], .bit6_E),
      ([0b11001011, 0b01110100], .bit6_H), ([0b11001011, 0b01110101], .bit6_L), ([0b11001011, 0b01110110], .bit6_IndHL), ([0b11001011, 0b01110111], .bit6_A),
      ([0b11001011, 0b01111000], .bit7_B), ([0b11001011, 0b01111001], .bit7_C), ([0b11001011, 0b01111010], .bit7_D), ([0b11001011, 0b01111011], .bit7_E),
      ([0b11001011, 0b01111100], .bit7_H), ([0b11001011, 0b01111101], .bit7_L), ([0b11001011, 0b01111110], .bit7_IndHL), ([0b11001011, 0b01111111], .bit7_A)] = true := by
  decide

theorem test_decode_extended_05 :
    decodes [
      ([0b11001011, 0b10000000], .res0_B), ([0b11001011, 0b10000001], .res0_C), ([0b11001011, 0b10000010], .res0_D), ([0b11001011, 0b10000011], .res0_E),
      ([0b11001011, 0b10000100], .res0_H), ([0b11001011, 0b10000101], .res0_L), ([0b11001011, 0b10000110], .res0_IndHL), ([0b11001011, 0b10000111], .res0_A),
      ([0b11001011, 0b10001000], .res1_B), ([0b11001011, 0b10001001], .res1_C), ([0b11001011, 0b10001010], .res1_D), ([0b11001011, 0b10001011], .res1_E),
      ([0b11001011, 0b10001100], .res1_H), ([0b11001011, 0b10001101], .res1_L), ([0b11001011, 0b10001110], .res1_IndHL), ([0b11001011, 0b10001111], .res1_A)] = true := by
  decide

theorem test_decode_extended_06 :
    decodes [
      ([0b11001011, 0b10010000], .res2_B), ([0b11001011, 0b10010001], .res2_C), ([0b11001011, 0b10010010], .res2_D), ([0b11001011, 0b10010011], .res2_E),
      ([0b11001011, 0b10010100], .res2_H), ([0b11001011, 0b10010101], .res2_L), ([0b11001011, 0b10010110], .res2_IndHL), ([0b11001011, 0b10010111], .res2_A),
      ([0b11001011, 0b10011000], .res3_B), ([0b11001011, 0b10011001], .res3_C), ([0b11001011, 0b10011010], .res3_D), ([0b11001011, 0b10011011], .res3_E),
      ([0b11001011, 0b10011100], .res3_H), ([0b11001011, 0b10011101], .res3_L), ([0b11001011, 0b10011110], .res3_IndHL), ([0b11001011, 0b10011111], .res3_A)] = true := by
  decide

theorem test_decode_extended_07 :
    decodes [
      ([0b11001011, 0b10100000], .res4_B), ([0b11001011, 0b10100001], .res4_C), ([0b11001011, 0b10100010], .res4_D), ([0b11001011, 0b10100011], .res4_E),
      ([0b11001011, 0b10100100], .res4_H), ([0b11001011, 0b10100101], .res4_L), ([0b11001011, 0b10100110], .res4_IndHL), ([0b11001011, 0b10100111], .res4_A),
      ([0b11001011, 0b10101000], .res5_B), ([0b11001011, 0b10101001], .res5_C), ([0b11001011, 0b10101010], .res5_D), ([0b11001011, 0b10101011], .res5_E),
      ([0b11001011, 0b10101100], .res5_H), ([0b11001011, 0b10101101], .res5_L), ([0b11001011, 0b10101110], .res5_IndHL), ([0b11001011, 0b10101111], .res5_A)] = true := by
  decide

theorem test_decode_extended_08 :
    decodes [
      ([0b11001011, 0b10110000], .res6_B), ([0b11001011, 0b10110001], .res6_C), ([0b11001011, 0b10110010], .res6_D), ([0b11001011, 0b10110011], .res6_E),
      ([0b11001011, 0b10110100], .res6_H), ([0b11001011, 0b10110101], .res6_L), ([0b11001011, 0b10110110], .res6_IndHL), ([0b11001011, 0b10110111], .res6_A),
      ([0b11001011, 0b10111000], .res7_B), ([0b11001011, 0b10111001], .res7_C), ([0b11001011, 0b10111010], .res7_D), ([0b11001011, 0b10111011], .res7_E),
      ([0b11001011, 0b10111100], .res7_H), ([0b11001011, 0b10111101], .res7_L), ([0b11001011, 0b10111110], .res7_IndHL), ([0b11001011, 0b10111111], .res7_A)] = true := by
  decide

theorem test_decode_extended_09 :
    decodes [
      ([0b11001011, 0b11000000], .set0_B), ([0b11001011, 0b11000001], .set0_C), ([0b11001011, 0b11000010], .set0_D), ([0b11001011, 0b11000011], .set0_E),
      ([0b11001011, 0b11000100], .set0_H), ([0b11001011, 0b11000101], .set0_L), ([0b11001011, 0b11000110], .set0_IndHL), ([0b11001011, 0b11000111], .set0_A),
      ([0b11001011, 0b11001000], .set1_B), ([0b11001011, 0b11001001], .set1_C), ([0b11001011, 0b11001010], .set1_D), ([0b11001011, 0b11001011], .set1_E),
      ([0b11001011, 0b11001100], .set1_H), ([0b11001011, 0b11001101], .set1_L), ([0b11001011, 0b11001110], .set1_IndHL), ([0b11001011, 0b11001111], .set1_A)] = true := by
  decide

theorem test_decode_extended_10 :
    decodes [
      ([0b11001011, 0b11010000], .set2_B), ([0b11001011, 0b11010001], .set2_C), ([0b11001011, 0b11010010], .set2_D), ([0b11001011, 0b11010011], .set2_E),
      ([0b11001011, 0b11010100], .set2_H), ([0b11001011, 0b11010101], .set2_L), ([0b11001011, 0b11010110], .set2_IndHL), ([0b11001011, 0b11010111], .set2_A),
      ([0b11001011, 0b11011000], .set3_B), ([0b11001011, 0b11011001], .set3_C), ([0b11001011, 0b11011010], .set3_D), ([0b11001011, 0b11011011], .set3_E),
      ([0b11001011, 0b11011100], .set3_H), ([0b11001011, 0b11011101], .set3_L), ([0b11001011, 0b11011110], .set3_IndHL), ([0b11001011, 0b11011111], .set3_A)] = true := by
  decide

theorem test_decode_extended_11 :
    decodes [
      ([0b11001011, 0b11100000], .set4_B), ([0b11001011, 0b11100001], .set4_C), ([0b11001011, 0b11100010], .set4_D), ([0b11001011, 0b11100011], .set4_E),
      ([0b11001011, 0b11100100], .set4_H), ([0b11001011, 0b11100101], .set4_L), ([0b11001011, 0b11100110], .set4_IndHL), ([0b11001011, 0b11100111], .set4_A),
      ([0b11001011, 0b11101000], .set5_B), ([0b11001011, 0b11101001], .set5_C), ([0b11001011, 0b11101010], .set5_D), ([0b11001011, 0b11101011], .set5_E),
      ([0b11001011, 0b11101100], .set5_H), ([0b11001011, 0b11101101], .set5_L), ([0b11001011, 0b11101110], .set5_IndHL), ([0b11001011, 0b11101111], .set5_A)] = true := by
  decide

theorem test_decode_extended_12 :
    decodes [
      ([0b11001011, 0b11110000], .set6_B), ([0b11001011, 0b11110001], .set6_C), ([0b11001011, 0b11110010], .set6_D), ([0b11001011, 0b11110011], .set6_E),
      ([0b11001011, 0b11110100], .set6_H), ([0b11001011, 0b11110101], .set6_L), ([0b11001011, 0b11110110], .set6_IndHL), ([0b11001011, 0b11110111], .set6_A),
      ([0b11001011, 0b11111000], .set7_B), ([0b11001011, 0b11111001], .set7_C), ([0b11001011, 0b11111010], .set7_D), ([0b11001011, 0b11111011], .set7_E),
      ([0b11001011, 0b11111100], .set7_H), ([0b11001011, 0b11111101], .set7_L), ([0b11001011, 0b11111110], .set7_IndHL), ([0b11001011, 0b11111111], .set7_A)] = true := by
  decide


/-- Both spellings of an extended row's word: the number 0xCBxx of the table, and the prefix in the low byte (log entry 9). -/
theorem test_decodeTableWord_extended :
    decodeTableWord 16 0xCB7C = some .bit7_H ∧ decodeTableWord 16 0x7CCB = some .bit7_H ∧
    decodeTableWord 16 0xCBCB = some .set1_E ∧ decodeTableWord 8 0x76 = some .halt ∧
    decodeTableWord 24 0x1234CD = some (.call 0x1234) ∧ decodeTableWord 8 0xCD = some (.call 0x0000) ∧
    decodeTableWord 8 0xC3 = none := by
  decide

/-- Rejections by name: V-DEC-1 to V-DEC-8, V-DEC-9, and V-CB-10. -/
theorem test_decode_rejects :
    [0xC3, 0x04, 0x3C, 0xC6, 0xFB, 0xFF, 0x10, 0xD3].map (fun op => decode Config.params [op])
      = [0xC3, 0x04, 0x3C, 0xC6, 0xFB, 0xFF, 0x10, 0xD3].map (fun op => .error (.unknownOpcode [op])) ∧
    decode { Config.params with removedPrimary := [0xE2] } [0xE2] = .error (.unknownOpcode [0xE2]) ∧
    decode Config.params [0xCB, 0x00] = .error (.unknownOpcode [0xCB, 0x00]) := ⟨rfl, rfl, rfl⟩

/-- The lengths of 30_encoding.md R138 are the encoder's. -/
theorem test_lengths :
    [Instr.nop, .ldB_D8 0x01, .ldBC_D16 0x0102, .jr 0x01, .call 0x0102, .ldhIndA8_A 0x01, .bit0_B, .halt].all
      (fun i => lengthOfOpcode i.opcode == (encode i).length) = true := by
  decide

/-- The very next step runs a placed instruction, at reset and where PC stands in a window that holds nothing (log entry 10). -/
theorem test_withFetchWord :
    steps (State.reset.withFetchWord 16 0xCBFF) (fun t => t.regs.a == 0x80 && t.regs.pc == 0x0002) = true ∧
    steps (State.withFetchWord { State.reset with regs := { r0 with pc := 0xA000 } } 8 0x76)
      (fun t => t.status == .halted && t.regs.pc == 0x0001) = true := by
  decide
/-! ## 8-bit loads (V-LD) -/

/-- V-LD-1 and V-LD-2. -/
theorem test_ld_rank :
    steps (nc [0x78] { r0 with b := 0x5A, f := 0xF0 }) (fun t => t.regs == { r0 with b := 0x5A, a := 0x5A, f := 0xF0, pc := 0x0001 }) = true ∧
    steps (nc [0x7F] { r0 with a := 0x42 }) (fun t => t.regs == { r0 with a := 0x42, pc := 0x0001 }) = true := by
  decide

/-- V-LD-3 and V-LD-5: a store through HL, and its fault in ROM. -/
theorem test_ld_store_hl :
    steps (nc [0x77] { r0 with h := 0xC0, l := 0x10, a := 0x99 })
      (fun t => byteAt 0xC010 t == some 0x99 && byteAt 0xE010 t == some 0x99) = true ∧
    steps (nc [0x77] { r0 with h := 0x01, a := 0x05 })
      (fun t => t.status == .faulted (.writeToRom 0x0100 0x05) && t.regs.pc == 0x0001) = true := by
  decide

/-- V-LD-4, with a nonzero image byte at 0x0002. -/
theorem test_ld_load_hl :
    steps (nc [0x46, 0x00, 0x3D] { r0 with l := 0x02 }) (fun t => t.regs.b == 0x3D && t.ticks == 2) = true := by
  decide

/-- V-LD-6 and V-LD-7. -/
theorem test_ld_immediate :
    steps (nc [0x06, 0x7F] r0) (fun t => t.regs == { r0 with b := 0x7F, pc := 0x0002 }) = true ∧
    steps (nc [0x36, 0xAA] { r0 with h := 0xC0 })
      (fun t => byteAt 0xC000 t == some 0xAA && byteAt 0xE000 t == some 0xAA && t.regs.pc == 0x0002 && t.ticks == 3) = true := by
  decide

/-- V-LD-8, and the same through DE. -/
theorem test_ld_store_pair :
    steps (nc [0x02] { r0 with b := 0xC2, a := 0x12 }) (fun t => byteAt 0xC200 t == some 0x12) = true ∧
    steps (nc [0x12] { r0 with d := 0xC2, e := 0x01, a := 0x12 }) (fun t => byteAt 0xC201 t == some 0x12) = true := by
  decide

/-- V-LD-9, and the same through BC. -/
theorem test_ld_load_pair :
    steps (withCells [(0xFF90, 0x34)] (nc [0x1A] { r0 with d := 0xFF, e := 0x90 })) (fun t => t.regs.a == 0x34) = true ∧
    steps (withCells [(0xFF90, 0x34)] (nc [0x0A] { r0 with b := 0xFF, c := 0x90 })) (fun t => t.regs.a == 0x34) = true := by
  decide

/-- V-LD-10 and V-LD-13: HL wraps, and stays where the store faults. -/
theorem test_ld_store_hl_inc :
    steps (nc [0x22] { r0 with h := 0xFF, l := 0xFF, a := 0x5A })
      (fun t => byteAt 0xFFFF t == some 0x5A && t.regs.hl == 0x0000) = true ∧
    steps (nc [0x22] { r0 with h := 0x01 })
      (fun t => t.status == .faulted (.writeToRom 0x0100 0x00) && t.regs.hl == 0x0100) = true := by
  decide

/-- V-LD-11. -/
theorem test_ld_store_hl_dec :
    steps (nc [0x32] { r0 with h := 0xC0, a := 0x77 })
      (fun t => byteAt 0xC000 t == some 0x77 && byteAt 0xE000 t == some 0x77 && t.regs.hl == 0xBFFF) = true := by
  decide

/-- V-LD-12, and the step down from 0x0000 (92_eei_decisions.md D9). -/
theorem test_ld_load_hl_inc_dec :
    steps (withCells [(0xDFFF, 0x99)] (nc [0x2A] { r0 with h := 0xDF, l := 0xFF })) (fun t => t.regs.a == 0x99 && t.regs.hl == 0xE000) = true ∧
    steps (nc [0x3A] r0) (fun t => t.regs.a == 0x3A && t.regs.hl == 0xFFFF) = true := by
  decide

/-- V-LD-14 and V-LD-15. -/
theorem test_ldh :
    steps (nc [0xE0, 0x80] { r0 with a := 0x42 }) (fun t => byteAt 0xFF80 t == some 0x42 && t.regs.pc == 0x0002) = true ∧
    steps (withCells [(0xFF44, 0x90)] (nc [0xF0, 0x44] r0)) (fun t => t.regs.a == 0x90) = true := by
  decide

/-- V-LD-16 and V-LD-17. -/
theorem test_ld_high_c :
    steps (nc [0xE2] { r0 with c := 0x10, a := 0x55 }) (fun t => byteAt 0xFF10 t == some 0x55 && t.regs.pc == 0x0001) = true ∧
    steps (withCells [(0xFFFF, 0xAB)] (nc [0xF2] { r0 with c := 0xFF })) (fun t => t.regs.a == 0xAB) = true := by
  decide

/-! ## The ALU block (V-ALU) -/

/-- A and F after an ALU opcode on B under a mode, with F = 0x10 where the carry is in. -/
def aluStep (mode : CarryInMode) (op a b : Byte) (cin : Bool) : Option (Nat × Nat) :=
  let s := nc [op] { r0 with a := a, b := b, f := if cin then 0x10 else 0x00 }
  match step { s with params := { s.params with carryInMode := mode } } with
  | .next t => some (t.regs.a.toNat, t.regs.f.toNat)
  | .fault _ => none
  | .refused _ => none

/-- Whether each row's A and F come out under both modes. -/
def aluRows (op : Byte) (table : List (Byte × Byte × Bool × Nat × Nat × Nat)) : Bool :=
  table.all fun (a, b, cin, r, f8, f3) =>
    aluStep .operandIncrement8 op a b cin == some (r, f8) && aluStep .sm83ThreeOperand op a b cin == some (r, f3)

/-- V-ALU-1 to V-ALU-6. -/
theorem test_alu_add :
    aluRows 0x80 [(0x3A, 0xC6, false, 0x00, 0xB0, 0xB0), (0x0F, 0x01, false, 0x10, 0x20, 0x20), (0xFF, 0x01, false, 0x00, 0xB0, 0xB0),
      (0x00, 0x00, false, 0x00, 0x80, 0x80), (0x80, 0x80, false, 0x00, 0x90, 0x90), (0x12, 0x34, true, 0x46, 0x00, 0x00)] = true := by
  decide

/-- V-ALU-7 to V-ALU-12. -/
theorem test_alu_adc :
    aluRows 0x88 [(0xE1, 0x0F, true, 0xF1, 0x00, 0x20), (0x00, 0xFF, true, 0x00, 0x80, 0xB0), (0x0E, 0x01, true, 0x10, 0x20, 0x20),
      (0xFE, 0x01, true, 0x00, 0xB0, 0xB0), (0x12, 0x34, false, 0x46, 0x00, 0x00), (0x80, 0x7F, true, 0x00, 0x90, 0xB0)] = true := by
  decide

/-- V-ALU-13 to V-ALU-17. -/
theorem test_alu_sub :
    aluRows 0x90 [(0x3E, 0x3E, false, 0x00, 0xC0, 0xC0), (0x3E, 0x0F, false, 0x2F, 0x60, 0x60), (0x10, 0x20, false, 0xF0, 0x50, 0x50),
      (0x00, 0x01, false, 0xFF, 0x70, 0x70), (0x10, 0x01, false, 0x0F, 0x60, 0x60)] = true := by
  decide

/-- V-ALU-18 to V-ALU-23. -/
theorem test_alu_sbc :
    aluRows 0x98 [(0x3B, 0x2A, true, 0x10, 0x40, 0x40), (0x3B, 0x4F, true, 0xEB, 0x50, 0x70), (0x00, 0xFF, true, 0x00, 0xC0, 0xF0),
      (0x10, 0x0F, true, 0x00, 0xC0, 0xE0), (0x01, 0x00, true, 0x00, 0xC0, 0xC0), (0x20, 0x10, false, 0x10, 0x40, 0x40)] = true := by
  decide

/-- V-ALU-24 to V-ALU-29. -/
theorem test_alu_logic :
    aluRows 0xA0 [(0x5A, 0x3F, false, 0x1A, 0x20, 0x20), (0x5A, 0x00, true, 0x00, 0xA0, 0xA0)] = true ∧
    aluRows 0xA8 [(0xFF, 0xFF, false, 0x00, 0x80, 0x80), (0xF0, 0x0F, true, 0xFF, 0x00, 0x00)] = true ∧
    aluRows 0xB0 [(0x00, 0x00, false, 0x00, 0x80, 0x80), (0x50, 0x05, true, 0x55, 0x00, 0x00)] = true := by
  decide

/-- V-ALU-30 to V-ALU-33. -/
theorem test_alu_cp :
    aluRows 0xB8 [(0x3C, 0x2F, false, 0x3C, 0x60, 0x60), (0x3C, 0x40, false, 0x3C, 0x50, 0x50), (0x3C, 0x3C, true, 0x3C, 0xC0, 0xC0),
      (0x00, 0x01, false, 0x00, 0x70, 0x70)] = true := by
  decide

/-- V-ALU-34 to V-ALU-36. -/
theorem test_alu_operands :
    steps (nc [0x81] { r0 with a := 0x01, c := 0x02 }) (fun t => t.regs.a == 0x03 && t.regs.f == 0x00) = true ∧
    steps (nc [0xAF] { r0 with a := 0x77 }) (fun t => t.regs.a == 0x00 && t.regs.f == 0x80) = true ∧
    steps (nc [0x97] { r0 with a := 0x5C }) (fun t => t.regs.a == 0x00 && t.regs.f == 0xC0) = true := by
  decide

/-- V-ALU-37 and V-ALU-38: the memory operand, and its fault before any change. -/
theorem test_alu_hl :
    steps (withCells [(0xC000, 0x01)] (nc [0x86] { r0 with a := 0xFF, h := 0xC0 }))
      (fun t => t.regs.a == 0x00 && t.regs.f == 0xB0 && t.ticks == 2) = true ∧
    steps { nc [] { r0 with h := 0x02, a := 0x11, f := 0x50 } with cart := .noController { size := 0x200, cells := [(0, 0xBE)] } }
      (fun t => t.status == .faulted (.imageBounds 0x0200 0x200) && t.regs.a == 0x11 && t.regs.f == 0x50) = true := by
  decide

/-- V-ALU-39 and V-ALU-40, in both modes. -/
theorem test_alu_a_with_carry :
    steps (nc [0x8F] { r0 with a := 0x80, f := 0x10 }) (fun t => t.regs.a == 0x01 && t.regs.f == 0x10) = true ∧
    steps (nc [0x9F] { r0 with a := 0x0F, f := 0x10 }) (fun t => t.regs.a == 0xFF && t.regs.f == 0x50) = true ∧
    steps { nc [0x9F] { r0 with a := 0x0F, f := 0x10 } with params := { Config.params with carryInMode := .sm83ThreeOperand } }
      (fun t => t.regs.a == 0xFF && t.regs.f == 0x70) = true := by
  decide

/-! ## 16-bit loads and the stack (V-STK) -/

/-- V-STK-1 to V-STK-3. -/
theorem test_ld_pair :
    steps (nc [0x21, 0x34, 0x12] r0) (fun t => t.regs == { r0 with h := 0x12, l := 0x34, pc := 0x0003 }) = true ∧
    steps (nc [0x01, 0xCD, 0xAB] r0) (fun t => t.regs == { r0 with b := 0xAB, c := 0xCD, pc := 0x0003 }) = true ∧
    steps (nc [0x31, 0xFE, 0xFF] r0) (fun t => t.regs == { r0 with sp := 0xFFFE, pc := 0x0003 }) = true := by
  decide

/-- V-STK-4 and V-STK-5. -/
theorem test_push :
    steps (nc [0xC5] { r0 with sp := 0xD000, b := 0x12, c := 0x34 })
      (fun t => t.regs.sp == 0xCFFE && byteAt 0xCFFE t == some 0x34 && byteAt 0xCFFF t == some 0x12
        && byteAt 0xEFFE t == some 0x34 && byteAt 0xEFFF t == some 0x12 && t.ticks == 4) = true ∧
    steps (nc [0xC5] { r0 with b := 0x12, c := 0x34 })
      (fun t => t.regs.sp == 0xFFFE && byteAt 0xFFFE t == some 0x34 && byteAt 0xFFFF t == some 0x12) = true := by
  decide

/-- V-STK-6: the first byte stands where the second store faults. -/
theorem test_push_faults :
    steps (nc [0xC5] { r0 with sp := 0x0001, b := 0x12, c := 0x34 })
      (fun t => t.regs.sp == 0xFFFF && byteAt 0xFFFF t == some 0x34 && t.status == .faulted (.writeToRom 0x0000 0x12)) = true := by
  decide

/-- V-STK-7 to V-STK-9. -/
theorem test_pop :
    steps (withCells [(0xFFFF, 0x34)] (nc [0xC1] { r0 with sp := 0xFFFF }))
      (fun t => t.regs.c == 0x34 && t.regs.b == 0xC1 && t.regs.sp == 0x0001) = true ∧
    steps (withCells [(0xC000, 0xFF), (0xC001, 0x80)] (nc [0xF1] { r0 with sp := 0xC000 }))
      (fun t => t.regs.a == 0x80 && t.regs.f == 0xF0 && t.regs.sp == 0xC002) = true ∧
    steps (withCells [(0xC000, 0x0F)] (nc [0xF1] { r0 with sp := 0xC000, f := 0x10 })) (fun t => t.regs.a == 0x00 && t.regs.f == 0x00) = true := by
  decide

/-! ## Control (V-CF) -/

/-- V-CF-1, V-CF-4 and V-CF-6. -/
theorem test_jr :
    steps (ncAt 0x100 [0x18, 0xFE] r0) (fun t => t.regs.pc == 0x0100 && t.ticks == 3) = true ∧
    steps (ncAt 0x100 [0x18, 0x80] r0) (fun t => t.regs.pc == 0x0082) = true ∧
    steps (nc [0x18, 0xFC] r0) (fun t => t.regs.pc == 0xFFFE) = true := by
  decide

/-- V-CF-7: the instruction at 0xFFFE, PC wrapping in its fetch. -/
theorem test_jr_wraps :
    steps (withCells [(0xFFFE, 0x18), (0xFFFF, 0x05)] (nc [] { r0 with pc := 0xFFFE })) (fun t => t.regs.pc == 0x0005) = true := by
  decide

/-- V-CF-8 to V-CF-11. -/
theorem test_jr_z :
    steps (nc [0x20, 0x10] r0) (fun t => t.regs.pc == 0x0012 && t.ticks == 3) = true ∧
    steps (nc [0x20, 0x10] { r0 with f := 0x80 }) (fun t => t.regs.pc == 0x0002 && t.ticks == 2) = true ∧
    steps (nc [0x28, 0x10] { r0 with f := 0x80 }) (fun t => t.regs.pc == 0x0012) = true ∧
    steps (nc [0x28, 0x10] r0) (fun t => t.regs.pc == 0x0002) = true := by
  decide

/-- V-CF-12 to V-CF-15, at 0x0000 in place of 0x0200. -/
theorem test_jr_c :
    steps (nc [0x30, 0xF0] r0) (fun t => t.regs.pc == 0xFFF2) = true ∧
    steps (nc [0x30, 0xF0] { r0 with f := 0x10 }) (fun t => t.regs.pc == 0x0002) = true ∧
    steps (nc [0x38, 0xF0] { r0 with f := 0x10 }) (fun t => t.regs.pc == 0xFFF2) = true ∧
    steps (nc [0x38, 0xF0] r0) (fun t => t.regs.pc == 0x0002) = true := by
  decide

/-- V-CF-16 and V-CF-20. -/
theorem test_call :
    steps (ncAt 0x7 [0xCD, 0x0E, 0x00] { r0 with sp := 0xCFFE })
      (fun t => byteAt 0xCFFC t == some 0x0A && byteAt 0xCFFD t == some 0x00 && t.regs.sp == 0xCFFC && t.regs.pc == 0x000E && t.ticks == 6) = true ∧
    steps (nc [0xCD, 0x34, 0x12] { r0 with sp := 0x0002 })
      (fun t => t.regs.sp == 0x0000 && t.status == .faulted (.writeToRom 0x0000 0x03) && t.regs.pc == 0x0003) = true := by
  decide

/-- V-CF-17. -/
theorem test_ret :
    steps (withCells [(0xCFFC, 0x0A)] (nc [0xC9] { r0 with sp := 0xCFFC }))
      (fun t => t.regs.pc == 0x000A && t.regs.sp == 0xCFFE && t.ticks == 4) = true := by
  decide

/-- V-CF-18 and V-CF-19. -/
theorem test_nop_halt :
    steps (nc [] { r0 with pc := 0x00DF }) (fun t => t.regs == { r0 with pc := 0x00E0 }) = true ∧
    steps (nc [0x76] r0) (fun t => t.status == .halted && t.regs.pc == 0x0001 && steps t (· == t)) = true := by
  decide

/-! ## The extended table (V-CB) -/

/-- V-CB-1, V-CB-2 and V-CB-4. -/
theorem test_bit :
    steps (nc [0xCB, 0x7C] { r0 with h := 0x9F, f := 0x10 }) (fun t => t.regs.f == 0x30 && t.regs.pc == 0x0002) = true ∧
    steps (nc [0xCB, 0x7C] { r0 with h := 0x7F, f := 0x10 }) (fun t => t.regs.f == 0xB0) = true ∧
    steps (nc [0xCB, 0x40] { r0 with b := 0xFE, f := 0xF0 }) (fun t => t.regs.f == 0xB0) = true := by
  decide

/-- V-CB-5 to V-CB-7. -/
theorem test_res_set :
    steps (nc [0xCB, 0xBF] { r0 with a := 0xFF, f := 0xA0 }) (fun t => t.regs == { r0 with a := 0x7F, f := 0xA0, pc := 0x0002 }) = true ∧
    steps (nc [0xCB, 0x80] r0) (fun t => t.regs == { r0 with pc := 0x0002 }) = true ∧
    steps (nc [0xCB, 0xFF] r0) (fun t => t.regs == { r0 with a := 0x80, pc := 0x0002 }) = true := by
  decide

/-- V-CB-8, V-CB-9 and V-CB-11. -/
theorem test_set_hl :
    steps (nc [0xCB, 0xC6] { r0 with h := 0xC0 })
      (fun t => byteAt 0xC000 t == some 0x01 && byteAt 0xE000 t == some 0x01 && t.ticks == 4) = true ∧
    steps (nc [0xCB, 0xC6] { r0 with h := 0x01 })
      (fun t => t.status == .faulted (.writeToRom 0x0100 0x01) && t.regs.pc == 0x0002) = true ∧
    steps (nc [0xCB, 0x37] r0) (fun t => t.status == .faulted (.unknownOpcode [0xCB, 0x37]) && t.regs.pc == 0x0002) = true := by
  decide

/-- V-CB-12 under both policies. -/
theorem test_set_disabled_ram :
    steps { mbc { bank with rom := bankImage [0xCB, 0xC6], ram := [(0, 0x42)] } with regs := { r0 with h := 0xA0 } }
      (fun t => t.status == .faulted (.cartRamWriteDisabled 0xA000 0x43)) = true ∧
    steps { mbc { bank with rom := bankImage [0xCB, 0xC6], ram := [(0, 0x42)] } with
        regs := { r0 with h := 0xA0 }, params := { Config.params with ramDisabledWrite := .ignore } }
      (fun t => t.status == .running && byteAt 0xA000 t == some 0x42) = true := by
  decide

/-- V-DEC-1: an opcode outside the table, and P5: the bytes after it are not fetched. -/
theorem test_unknown_opcode :
    steps (nc [0xC3, 0x00, 0x00] r0) (fun t => t == takeFault (.unknownOpcode [0xC3]) (addHooks 1 ((nc [0xC3, 0x00, 0x00] r0).setPc 0x0001))) = true := by
  decide

/-! ## Memory, the bank controller and construction (V-SRC, V-MBC, V-MEM, V-RST) -/

/-- V-SRC-4 and V-MEM-7. -/
theorem test_echo :
    byteAt 0xE123 (poke 0xC123 0x3C State.reset) = some 0x3C ∧ byteAt 0xFF80 (poke 0xDF80 0x3C State.reset) = some 0x3C ∧
    byteAt 0xDDFF (poke 0xFDFF 0x11 State.reset) = some 0x11 ∧ byteAt 0xDE00 (poke 0xFE00 0x11 State.reset) = some 0x00 ∧
    byteAt 0xDF80 (poke 0xFF80 0x3C State.reset) = some 0x00 := by
  decide

/-- V-MBC-1 to V-MBC-5. -/
theorem test_mbc_rom_bank :
    bankRegs (poke 0x2000 0x00 (mbc bank)) = some (0x01, 0, false, false) ∧
    bankRegs (poke 0x2000 0x20 (mbc bank)) = some (0x01, 0, false, false) ∧
    bankRegs (poke 0x2000 0x1F (mbc bank)) = some (0x1F, 0, false, false) ∧
    bankRegs (poke 0x4000 0x03 (mbc { bank with romBank := 0x1F })) = some (0x7F, 0, false, false) ∧
    bankRegs (poke 0x2000 0x00 (mbc { bank with romBank := 0x7F })) = some (0x61, 0, false, false) := by
  decide

/-- V-MBC-6 to V-MBC-9. -/
theorem test_mbc_mode :
    bankRegs (poke 0x6000 0x01 (mbc { bank with romBank := 0x61 })) = some (0x61, 0, true, false) ∧
    bankRegs (poke 0x4000 0x02 (mbc { bank with romBank := 0x61, mode := .ramBanking })) = some (0x61, 2, true, false) ∧
    bankRegs (poke 0x6000 0x00 (mbc { bank with romBank := 0x61, ramBank := 2, mode := .ramBanking })) = some (0x61, 2, false, false) ∧
    bankRegs (poke 0x4000 0x01 (mbc { bank with romBank := 0x61, ramBank := 2 })) = some (0x21, 2, false, false) := by
  decide

/-- The RAM-enable writes after V-MBC-10. -/
theorem test_mbc_ram_enable :
    [0x0A, 0x1A, 0xFA, 0x0B, 0x00].map (fun v => (bankRegs (poke 0x0000 v (mbc bank))).map (·.2.2.2))
      = [some true, some true, some true, some false, some false] := by
  decide

/-- V-MEM-2 and V-MEM-3. -/
theorem test_mbc_ram :
    byteAt 0xA123 (poke 0xA123 0x77 (mbc { bank with ramEnable := true, ramBank := 2 })) = some 0x77 ∧
    byteAt 0xA123 (mbc { bank with ram := [(0x4123, 0x77)], ramBank := 2 }) = some 0x77 ∧
    byteAt 0xA123 (mbc { bank with ram := [(0x4123, 0x77)] }) = some 0x00 := by
  decide

/-- V-MEM-1, V-MEM-4, V-MEM-5 and V-MEM-6. -/
theorem test_memory_faults :
    pokeFault 0xA000 0x01 (mbc bank) = some (.cartRamWriteDisabled 0xA000 0x01) ∧
    peekFault 0x4000 (mbc { bank with romBank := 2 }) = some (.imageBounds 0x4000 0x8000) ∧
    peekFault 0x0200 { State.reset with cart := .noController { size := 0x200, cells := [] } } = some (.imageBounds 0x0200 0x200) ∧
    peekFault 0xA000 State.reset = some (.imageBounds 0xA000 0xA000) ∧
    pokeFault 0xA000 0x05 State.reset = some (.cartRamWriteDisabled 0xA000 0x05) := by
  decide

/-- V-SRC-6: the reads of a switched bank, on an image whose byte `i` is nonzero at the indices read. -/
theorem test_mbc_reads :
    byteAt 0x4000 (mbc { bank with rom := { size := 100000, cells := [(0, 1), (0x147, 1), (16384, 17), (49152, 49)] } }) = some 17 ∧
    byteAt 0x4000 (mbc { bank with rom := { size := 100000, cells := [(0, 1), (0x147, 1), (16384, 17), (49152, 49)] }, romBank := 3 })
      = some 49 := by
  decide

/-- V-MEM-8: a 16-bit store across 0xDFFF. -/
theorem test_word_across_echo :
    steps (nc [0xC5] { r0 with sp := 0xE001, b := 0x12, c := 0x34 })
      (fun t => byteAt 0xDFFF t == some 0x34 && byteAt 0xFFFF t == some 0x34 && byteAt 0xE000 t == some 0x12
        && byteAt 0xC000 t == some 0x12) = true := by
  decide

/-- V-RST-1 and V-RST-2. -/
theorem test_construct :
    construct Config.params { size := 0x147, cells := [] } = .fault (.imageTooShort 0x147) ∧
    construct Config.params { size := 0x148, cells := [] } = .next { State.reset with cart := .noController { size := 0x148, cells := [] } } ∧
    construct Config.params { size := 0x8000, cells := [(0x147, 0x13)] } = .fault (.unsupportedCartridge 0x13) := ⟨rfl, rfl, rfl⟩

/-- V-RST-3 for a SwitchableBank. -/
theorem test_construct_bank :
    construct Config.params (bankImage [0x76]) = .next { State.reset with cart := .switchableBank { bank with rom := bankImage [0x76] } } := rfl

/-- The reset image is the one `State.reset` is constructed from (log entry 3), and its memory is canonical. -/
theorem test_reset : construct Config.params Config.image = .next State.reset ∧ State.reset.flat.wf = true := ⟨rfl, rfl⟩

/-! ## Codes of faults (60_exceptions.md R261) -/

theorem test_fault_codes :
    [Fault.unsupportedCartridge 0, .imageTooShort 0, .unknownOpcode [], .writeToRom 0 0, .cartRamWriteDisabled 0 0, .invalidRank 8,
      .imageBounds 0 0].map Fault.code = [0x01, 0x02, 0x10, 0x11, 0x12, 0x13, 0x14] := by
  decide

/-- Two NOPs from reset are a safe run (V-SRC-8). -/
theorem test_safe_run : SafeRun 2 State.reset := ⟨_, rfl, rfl⟩

/-! ## Witnesses: states and operands that meet the hypotheses of each obligation, each clause at a boundary -/

/-- A legal state with a SwitchableBank. -/
theorem inv_mbc : (mbc bank).Inv := ⟨rfl, rfl, by decide, rfl⟩

theorem inv_reset : State.reset.Inv := ⟨rfl, rfl, by decide, rfl⟩

theorem test_witness_ResetStateHoldsTheSpecValues :
    [0x8000, 0x9FFF, 0xC000, 0xFFFF].all isFlatAddr = true ∧ [0x7FFF, 0xA000, 0xBFFF].any isFlatAddr = false := by decide

theorem test_witness_ConstructionSelectsTheController :
    (Image.mk 0x147 []).size ≤ 0x147 ∧ (Image.mk 0x148 []).byte? 0x147 = some 0x00 ∧ (Image.mk 0x148 [(0x147, 0x01)]).byte? 0x147 = some 0x01 :=
  ⟨by decide, rfl, rfl⟩

theorem test_witness_UnsupportedTypeByteFailsConstruction :
    (Image.mk 0x148 [(0x147, 0x02)]).byte? 0x147 = some 0x02 ∧ (0x02 : Byte) ≠ 0x00 ∧ (0x02 : Byte) ≠ 0x01 := by decide

theorem test_witness_ConstructedConsolesMeetTheInvariant :
    ((Image.mk 0x148 []).wf = true ∧ ∃ s, construct Config.params { size := 0x148, cells := [] } = .next s) ∧
    (bankImage []).wf = true ∧ ∃ s, construct Config.params (bankImage []) = .next s :=
  ⟨⟨by decide, _, rfl⟩, by decide, _, rfl⟩

theorem test_witness_DecodeOfEncodeGivesTheInstruction :
    (Instr.call 0xFFFF).wf { Config.params with removedPrimary := [0xE2] } = true ∧
    (Instr.set7_A).wf { Config.params with removedPrimary := [0xCB] } = true := by decide

theorem test_witness_EncodeOfDecodeGivesTheBytes :
    decode Config.params [0xCD, 0xFF, 0xFF, 0x76] = .ok (.call 0xFFFF, [0x76]) ∧
    decode Config.params [0xCB, 0x40] = .ok (.bit0_B, []) := ⟨rfl, rfl⟩

/-- Not running; a fetch fault at 0xA000; a CALL whose third byte lies past the wrap of PC. -/
theorem test_witness_StepFetchesDecodesAndExecutes :
    (∃ s : State, s.status ≠ .running) ∧
    (∃ (s : State) (f : Fault), s.status = .running ∧ routerRead s.regs.pc s = .error f) ∧
    (∃ (s : State) (bytes : List Byte) (i : Instr), s.status = .running ∧ decode s.params bytes = .ok (i, []) ∧
      bytes.length = 3 ∧ bytesAt s.regs.pc bytes s) :=
  ⟨⟨{ State.reset with status := .halted }, by decide⟩,
    ⟨nc [] { r0 with pc := 0xA000 }, _, rfl, rfl⟩,
    withCells [(0xFFFE, 0xCD), (0xFFFF, 0x0E)] (nc [0x21] { r0 with pc := 0xFFFE }), [0xCD, 0x0E, 0x21], _, rfl, rfl, rfl, rfl, rfl, rfl, trivial⟩

/-- No byte, one byte at 0x9FFF and two bytes up to 0x9FFF fetched before the fault at 0xA000. -/
theorem test_witness_OperandFetchFaultLeavesPcPastTheFetchedBytes :
    (∃ (s : State) (f : Fault), s.status = .running ∧ decode s.params [] = .error .truncated ∧ bytesAt s.regs.pc [] s ∧
      routerRead (s.regs.pc + BitVec.ofNat 16 0) s = .error f) ∧
    (∃ (s : State) (f : Fault), s.status = .running ∧ decode s.params [0x06] = .error .truncated ∧ bytesAt s.regs.pc [0x06] s ∧
      routerRead (s.regs.pc + BitVec.ofNat 16 1) s = .error f) ∧
    (∃ (s : State) (f : Fault), s.status = .running ∧ decode s.params [0xCD, 0x0E] = .error .truncated ∧
      bytesAt s.regs.pc [0xCD, 0x0E] s ∧ routerRead (s.regs.pc + BitVec.ofNat 16 2) s = .error f) :=
  ⟨⟨nc [] { r0 with pc := 0xA000 }, _, rfl, rfl, trivial, rfl⟩,
    ⟨withCells [(0x9FFF, 0x06)] (nc [] { r0 with pc := 0x9FFF }), _, rfl, rfl, ⟨rfl, trivial⟩, rfl⟩,
    withCells [(0x9FFE, 0xCD), (0x9FFF, 0x0E)] (nc [] { r0 with pc := 0x9FFE }), _, rfl, rfl, ⟨rfl, rfl, trivial⟩, rfl⟩

theorem test_witness_IllegalPrimaryOpcodesFault :
    ((nc [0xFF] r0).status = .running ∧ routerRead 0x0000 (nc [0xFF] r0) = .ok 0xFF ∧ (0xFF : Byte) ≠ 0xCB ∧ 0xFF ∉ primaryTable) ∧
    (∃ s : State, s.status = .running ∧ routerRead s.regs.pc s = .ok 0xE2 ∧ s.params.removedPrimary.contains 0xE2 = true) :=
  ⟨⟨rfl, rfl, by decide, by decide⟩, { nc [0xE2] r0 with params := { Config.params with removedPrimary := [0xE2] } }, rfl, rfl, rfl⟩

theorem test_witness_IllegalExtendedOpcodesFault :
    (nc [0xCB, 0x3F] r0).status = .running ∧ bytesAt 0x0000 [0xCB, 0x3F] (nc [0xCB, 0x3F] r0) ∧ (0x3F : Byte).toNat < 0x40 ∧
    bytesAt 0x0000 [0xCB, 0x00] (nc [0xCB, 0x00] r0) :=
  ⟨rfl, ⟨rfl, rfl, trivial⟩, by decide, rfl, rfl, trivial⟩

theorem test_witness_HaltedOrFaultedConsolesNeverChange :
    Status.halted ≠ .running ∧ Status.faulted (.unknownOpcode [0xC3]) ≠ .running := by decide

theorem test_witness_HaltStopsTheConsole :
    Config.params.admits 0x76 = true ∧ { State.reset with status := .halted }.status = .halted := ⟨rfl, rfl⟩

theorem test_witness_EveryStepAnswersAndOnlyHaltHalts :
    ∃ t : State, step (nc [0x76] r0) = .next t ∧ (nc [0x76] r0).status = .running ∧ t.status = .halted := ⟨_, rfl, rfl, rfl⟩

/-- The addresses where the clauses meet: 0xC000, 0xDFFF, 0xE000, 0xFDFF, 0xFE00, 0xFFFF. -/
theorem test_witness_WorkRamAndEchoStoresAreMirrored :
    State.reset.Inv ∧ (0xC000 ≤ (0xDFFF : Addr).toNat ∧ (0xDFFF : Addr).toNat ≤ 0xDFFF) ∧
    (0xE000 ≤ (0xE000 : Addr).toNat ∧ (0xFDFF : Addr).toNat ≤ 0xFDFF) ∧ 0xFE00 ≤ (0xFE00 : Addr).toNat :=
  ⟨inv_reset, by decide, by decide, by decide⟩

theorem test_witness_FlatAddressesArePlainBytes :
    State.reset.Inv ∧ [0x8000, 0x9FFF, 0xFE00, 0xFFFF].all (fun a => (decide (0x8000 ≤ a) && decide (a ≤ 0x9FFF)) || decide (0xFE00 ≤ a)) = true :=
  ⟨inv_reset, by decide⟩

theorem test_witness_AStoreLeavesOtherBytesAlone :
    (∃ t, routerWrite 0xC000 0x11 State.reset = .ok t) ∧ inControlRange 0xC000 = false ∧ (0xC001 : Addr) ∉ storedCells 0xC000 ∧
    isFlatAddr (0xC000 : Addr).toNat = true ∧ isFlatAddr (0xA000 : Addr).toNat = false ∧
    (∃ t, routerWrite 0xA000 0x11 (mbc { bank with ramEnable := true }) = .ok t) ∧ inControlRange 0xA000 = false ∧
    (0x4000 : Addr) ∉ storedCells 0xA000 :=
  ⟨⟨_, rfl⟩, by decide, by decide, by decide, by decide, ⟨_, rfl⟩, by decide, by decide⟩

theorem test_witness_StoresToNoControllerRomFault :
    State.reset.cart = .noController (Config.image.firstBytes 0x8000) ∧ (0x7FFF : Addr).toNat < 0x8000 := ⟨rfl, by decide⟩

/-- The last byte of a short image, the first beyond it, and both ends of the RAM window. -/
theorem test_witness_NoControllerReadsTheFirst32KiB :
    (∃ s : State, s.cart = .noController ((Image.mk 0x148 []).firstBytes 32768)) ∧
    (Image.mk 0x148 []).byte? 0x147 = some 0x00 ∧ (Image.mk 0x148 []).byte? 0x148 = none ∧
    0xA000 ≤ (0xA000 : Addr).toNat ∧ (0xBFFF : Addr).toNat ≤ 0xBFFF :=
  ⟨⟨{ State.reset with cart := .noController ((Image.mk 0x148 []).firstBytes 32768) }, rfl⟩, rfl, rfl, by decide, by decide⟩

/-- Index 0x3FFF of bank 0, the ends of bank 1, and beyond the image in bank 2. -/
theorem test_witness_SwitchableBankReadsTheSelectedRomBank :
    (mbc bank).cart = .switchableBank bank ∧ bank.rom.byte? 0x3FFF = some 0x00 ∧
    ((0x4000 : Nat) : Int) = (0x4000 : Addr).toNat + ((bank.romBank.toNat : Int) - 1) * 0x4000 ∧ bank.rom.byte? 0x7FFF = some 0x00 ∧
    ((0x8000 : Nat) : Int) = (0x4000 : Addr).toNat + (((2 : BitVec 7).toNat : Int) - 1) * 0x4000 ∧ bank.rom.byte? 0x8000 = none :=
  ⟨rfl, rfl, by decide, rfl, by decide, rfl⟩

/-- The boundary addresses 0x1FFF, 0x2000, 0x3FFF, 0x4000 and 0x5FFF fall under one clause each. -/
theorem test_witness_BankRegisterStores :
    (mbc bank).cart = .switchableBank bank ∧ bank.mode = .romBanking ∧
    (mbc { bank with mode := .ramBanking }).cart = .switchableBank { bank with mode := .ramBanking } ∧
    (0x1FFF : Addr).toNat ≤ 0x1FFF ∧ 0x2000 ≤ (0x2000 : Addr).toNat ∧ (0x3FFF : Addr).toNat ≤ 0x3FFF ∧ 0x4000 ≤ (0x4000 : Addr).toNat ∧
    (0x5FFF : Addr).toNat ≤ 0x5FFF :=
  ⟨rfl, rfl, rfl, by decide, by decide, by decide, by decide, by decide⟩

theorem test_witness_BankingModeStores :
    (mbc bank).cart = .switchableBank bank ∧ 0x6000 ≤ (0x6000 : Addr).toNat ∧ (0x7FFF : Addr).toNat ≤ 0x7FFF := ⟨rfl, by decide, by decide⟩

/-- The last cell of the last RAM bank. -/
theorem test_witness_CartridgeRamReadsAndStores :
    ∃ (m : SwitchableBank) (a : Addr) (s : State), s.cart = .switchableBank m ∧ 0xA000 ≤ a.toNat ∧ a.toNat ≤ 0xBFFF ∧
      0x7FFF = a.toNat - 0xA000 + m.ramBank.toNat * 0x2000 ∧ m.ramEnable = true ∧ m.ram.wf = true :=
  ⟨{ bank with ramBank := 3, ramEnable := true }, 0xBFFF, mbc { bank with ramBank := 3, ramEnable := true }, rfl, by decide, by decide,
    by decide, rfl, rfl⟩

theorem test_witness_DisabledCartridgeRamStores :
    0xA000 ≤ (0xA000 : Addr).toNat ∧ (0xBFFF : Addr).toNat ≤ 0xBFFF ∧ (∃ rom, State.reset.cart = .noController rom) ∧
    ((mbc bank).cart = .switchableBank bank ∧ bank.ramEnable = false ∧ (mbc bank).params.ramDisabledWrite = .fault) ∧
    (∃ s : State, s.cart = .switchableBank bank ∧ s.params.ramDisabledWrite = .ignore) :=
  ⟨by decide, by decide, ⟨_, rfl⟩, ⟨rfl, rfl, rfl⟩,
    { mbc bank with params := { Config.params with ramDisabledWrite := .ignore } }, rfl, rfl⟩

/-- A register to a register, a store, a store that faults, and a read that faults. -/
theorem test_witness_LoadRankMovesOneByte :
    (Instr.ldA_IndHL.form = .ld .a .hlInd ∧ operandValue .hlInd State.reset = .ok 0x00 ∧ Rank.a ≠ .hlInd) ∧
    (Instr.ldIndHL_A.form = .ld .hlInd .a ∧ operandValue .a (nc [] { r0 with h := 0xC0 }) = .ok 0x00 ∧
      ∃ t, routerWrite 0xC000 0x00 (nc [] { r0 with h := 0xC0 }) = .ok t) ∧
    (∃ f, routerWrite State.reset.regs.hl 0x00 State.reset = .error f) ∧
    (∃ f, operandValue .hlInd (nc [] { r0 with h := 0xA0 }) = .error f) :=
  ⟨⟨rfl, rfl, by decide⟩, ⟨rfl, rfl, _, rfl⟩, ⟨_, rfl⟩, _, rfl⟩

theorem test_witness_LoadImmediateWritesTheByte :
    (Instr.ldA_D8 0xFF).form = .ldImm .a 0xFF ∧ Rank.a ≠ .hlInd ∧ (Instr.ldIndHL_D8 0xFF).form = .ldImm .hlInd 0xFF ∧
    (∃ t, routerWrite 0xC000 0xFF (nc [] { r0 with h := 0xC0 }) = .ok t) ∧
    (∃ f, routerWrite State.reset.regs.hl 0xFF State.reset = .error f) :=
  ⟨rfl, by decide, rfl, ⟨_, rfl⟩, _, rfl⟩

/-- HL+ at 0xFFFF, where HL wraps, and a store that faults. -/
theorem test_witness_StoresOfAThroughAPair :
    Instr.ldIndHLInc_A.form = .storeInd .hlInc ∧ (0xFFFF : Addr) = (0xFF : Byte) ++ (0xFF : Byte) ∧
    (∃ t, routerWrite 0xFFFF 0x00 (nc [] { r0 with h := 0xFF, l := 0xFF }) = .ok t) ∧
    (0x0000 : Addr) = State.reset.regs.h ++ State.reset.regs.l ∧
    (∃ f, routerWrite 0x0000 State.reset.regs.a State.reset = .error f) :=
  ⟨rfl, rfl, ⟨_, rfl⟩, rfl, _, rfl⟩

/-- HL- at 0x0000, where HL wraps, and a read that faults. -/
theorem test_witness_LoadsOfAThroughAPair :
    Instr.ldA_IndHLDec.form = .loadInd .hlDec ∧ (0x0000 : Addr) = State.reset.regs.h ++ State.reset.regs.l ∧
    routerRead 0x0000 State.reset = .ok 0x00 ∧ (0xA000 : Addr) = (0xA0 : Byte) ++ (0x00 : Byte) ∧
    (∃ f, routerRead 0xA000 (nc [] { r0 with h := 0xA0 }) = .error f) :=
  ⟨rfl, rfl, rfl, rfl, _, rfl⟩

theorem test_witness_HighPageLoadsAndStores :
    (Instr.ldhIndA8_A 0xFF).form = .storeHigh 0xFF ∧ Instr.ldIndC_A.form = .storeHighC ∧ (Instr.ldhA_IndA8 0x00).form = .loadHigh 0x00 ∧
    Instr.ldA_IndC.form = .loadHighC ∧ (0x00 : Byte) = State.reset.regs.c := ⟨rfl, rfl, rfl, rfl, rfl⟩

theorem test_witness_AddWritesTheSumAndItsFlags :
    Instr.addA_IndHL.form = .alu .add .hlInd ∧ operandValue .hlInd State.reset = .ok 0x00 ∧ Instr.addA_A.form = .alu .add .a ∧
    operandValue .a (nc [] { r0 with a := 0xFF }) = .ok 0xFF := ⟨rfl, rfl, rfl, rfl⟩

theorem test_witness_SubWritesTheDifferenceAndItsFlags :
    Instr.sub_IndHL.form = .alu .sub .hlInd ∧ operandValue .hlInd State.reset = .ok 0x00 ∧ Instr.sub_B.form = .alu .sub .b ∧
    operandValue .b (nc [] { r0 with b := 0xFF }) = .ok 0xFF := ⟨rfl, rfl, rfl, rfl⟩

theorem test_witness_CompareWritesSubtractsFlagsOnly :
    Instr.cp_IndHL.form = .alu .cp .hlInd ∧ Instr.sub_IndHL.form = .alu .sub .hlInd ∧ operandValue .hlInd State.reset = .ok 0x00 ∧
    ∃ t, exec .sub_IndHL State.reset = .next t := ⟨rfl, rfl, rfl, _, rfl⟩

/-- Both modes with the carry in and the operand 0xFF, where they differ. -/
theorem test_witness_AdcAndSbcTakeTheCarryByTheMode :
    Instr.adcA_B.form = .alu .adc .b ∧ Instr.sbcA_B.form = .alu .sbc .b ∧
    operandValue .b (nc [] { r0 with b := 0xFF, f := 0x10 }) = .ok 0xFF ∧ 1 = ((0x10 : Byte).getLsbD 4).toNat ∧
    (Config.params.carryInMode = .operandIncrement8 ∧ 0 = ((0xFF : Byte).toNat + 1) % 256) ∧
    (∃ s : State, s.params.carryInMode = .sm83ThreeOperand ∧ operandValue .b s = .ok 0xFF) :=
  ⟨rfl, rfl, rfl, rfl, ⟨rfl, rfl⟩,
    { nc [] { r0 with b := 0xFF } with params := { Config.params with carryInMode := .sm83ThreeOperand } }, rfl, rfl⟩

theorem test_witness_LogicOperationsWriteTheirFlags :
    operandValue .hlInd State.reset = .ok 0x00 ∧ Instr.and_IndHL.form = .alu .and .hlInd ∧ Instr.xor_IndHL.form = .alu .xor .hlInd ∧
    Instr.or_IndHL.form = .alu .or .hlInd := ⟨rfl, rfl, rfl, rfl⟩

theorem test_witness_AluBlockSelectsReadsThenWrites :
    Config.params.admits (0b10#2 ++ (7 : BitVec 3) ++ (6 : BitVec 3)) = true ∧
    ([AluOp.add, .adc, .sub, .sbc, .and, .xor, .or, .cp].getD (7 : BitVec 3).toNat .cp = .cp) ∧
    ([Rank.b, .c, .d, .e, .h, .l, .hlInd, .a].getD (6 : BitVec 3).toNat .a = .hlInd) ∧
    (∃ f, operandValue .hlInd (nc [] { r0 with h := 0xA0 }) = .error f) ∧ operandValue .hlInd State.reset = .ok 0x00 :=
  ⟨by decide, rfl, rfl, ⟨_, rfl⟩, rfl⟩

/-- The boundary operands of R192: 0x0F, 0xFF and one off each, with the carry in. -/
theorem test_witness_CarryModesAgreeButInTheListedCases :
    (0x0F : Byte).toNat % 16 = 0xF ∧ (0x0F : Byte) ≠ 0xFF ∧ (0xFF : Byte).toNat % 16 = 0xF ∧ ¬ (true = true ∧ (0xFE : Byte).toNat % 16 = 0xF) := by
  decide

theorem test_witness_LoadPairWritesTheImmediate :
    (0xFF : Byte) = BitVec.ofNat 8 ((0xFF01 : Addr).toNat / 256) ∧ (0x01 : Byte) = BitVec.ofNat 8 ((0xFF01 : Addr).toNat % 256) ∧
    (Instr.ldBC_D16 0xFF01).form = .ldPair .bc 0xFF01 ∧ (Instr.ldDE_D16 0xFF01).form = .ldPair .de 0xFF01 ∧
    (Instr.ldHL_D16 0xFF01).form = .ldPair .hl 0xFF01 ∧ (Instr.ldSP_D16 0xFF01).form = .ldPair .sp 0xFF01 :=
  ⟨by decide, by decide, rfl, rfl, rfl, rfl⟩

/-- A push from SP = 0x0000, where SP wraps. -/
theorem test_witness_PushStoresThePairBelowTheStack :
    Instr.pushAF.form = .push .af ∧ (0xFFFE : Addr) = State.reset.regs.sp - 2 ∧
    ∃ t u, routerWrite 0xFFFE 0x00 (State.reset.setSp 0xFFFE) = .ok t ∧ routerWrite (0xFFFE + 1) 0x00 t = .ok u :=
  ⟨rfl, by decide, _, _, rfl, rfl⟩

/-- A pop from SP = 0xFFFF, whose second byte is at 0x0000. -/
theorem test_witness_PopLoadsThePairFromTheStack :
    Instr.popAF.form = .pop .af ∧ routerRead 0xFFFF (nc [0x77] { r0 with sp := 0xFFFF }) = .ok 0x00 ∧
    routerRead (0xFFFF + 1) (nc [0x77] { r0 with sp := 0xFFFF }) = .ok 0x77 := ⟨rfl, rfl, rfl⟩

/-- Pushes that fault at the first and at the second byte, and pops that do. -/
theorem test_witness_StackFaultsKeepTheEarlierEffects :
    (Instr.pushBC.form = .push .bc ∧ (Instr.call 0x1234).form = .call 0x1234 ∧ (0x0000 : Addr).toNat = (0 : Byte).toNat * 256 + (0 : Byte).toNat) ∧
    (∃ f, routerWrite (0x0002 - 2) 0x00 ((nc [] { r0 with sp := 0x0002 }).setSp (0x0002 - 2)) = .error f) ∧
    (∃ t f, routerWrite (0x0001 - 2) 0x00 ((nc [] { r0 with sp := 0x0001 }).setSp (0x0001 - 2)) = .ok t ∧
      routerWrite (0x0001 - 2 + 1) 0x00 t = .error f) ∧
    (Instr.popBC.form = .pop .bc ∧ Instr.ret.form = .ret ∧ ∃ f, routerRead 0xA000 (nc [] { r0 with sp := 0xA000 }) = .error f) ∧
    (∃ f, routerRead 0x9FFF (nc [] { r0 with sp := 0x9FFF }) = .ok 0x00 ∧ routerRead (0x9FFF + 1) (nc [] { r0 with sp := 0x9FFF }) = .error f) :=
  ⟨⟨rfl, rfl, rfl⟩, ⟨_, rfl⟩, ⟨_, _, rfl, rfl⟩, ⟨rfl, rfl, _, rfl⟩, _, rfl, rfl⟩

theorem test_witness_PushThenPopMovesThePair :
    State.reset.Inv ∧ Instr.pushAF.form = .push .af ∧ Instr.popBC.form = .pop .bc ∧
    isFlatAddr (State.reset.regs.sp - 2).toNat = true ∧ isFlatAddr (State.reset.regs.sp - 1).toNat = true :=
  ⟨inv_reset, rfl, rfl, by decide, by decide⟩

/-- Displacements at both ends of the range. -/
theorem test_witness_RelativeJumpsMovePc :
    (addHooks 1 State.reset).setPc 0xFF80 = (addHooks 1 State.reset).setPc (BitVec.ofInt 16 (State.reset.regs.pc.toNat + (0x80 : Byte).toInt)) ∧
    (Instr.jr 0x80).form = .jr 0x80 ∧ (Instr.jrNZ 0x7F).form = .jrCond .nz 0x7F ∧ (Instr.jrZ 0x7F).form = .jrCond .z 0x7F ∧
    (Instr.jrNC 0x7F).form = .jrCond .nc 0x7F ∧ (Instr.jrC 0x7F).form = .jrCond .c 0x7F := ⟨by decide, rfl, rfl, rfl, rfl, rfl⟩

theorem test_witness_CallPushesTheReturnAddress :
    (Instr.call 0x1234).form = .call 0x1234 ∧ (0xFFFE : Addr) = State.reset.regs.sp - 2 ∧
    ∃ t u, routerWrite 0xFFFE (BitVec.ofNat 8 (State.reset.regs.pc.toNat % 256)) (State.reset.setSp 0xFFFE) = .ok t ∧
      routerWrite (0xFFFE + 1) (BitVec.ofNat 8 (State.reset.regs.pc.toNat / 256)) t = .ok u := ⟨rfl, by decide, _, _, rfl, rfl⟩

theorem test_witness_ReturnPopsPc :
    routerRead State.reset.regs.sp State.reset = .ok 0x00 ∧ routerRead (State.reset.regs.sp + 1) State.reset = .ok 0x00 := ⟨rfl, rfl⟩

theorem test_witness_CallThenReturnResumes :
    State.reset.Inv ∧ (Instr.call 0x1234).form = .call 0x1234 ∧
    isFlatAddr (State.reset.regs.sp - 2).toNat = true ∧ isFlatAddr (State.reset.regs.sp - 1).toNat = true :=
  ⟨inv_reset, rfl, by decide, by decide⟩

theorem test_witness_BitTestWritesZNHAndKeepsC :
    Instr.bit7_IndHL.form = .bit 7 .hlInd ∧ operandValue .hlInd State.reset = .ok 0x00 ∧
    ∃ f, operandValue .hlInd (nc [] { r0 with h := 0xA0 }) = .error f := ⟨rfl, rfl, _, rfl⟩

/-- A register, a store through HL, a store and a read that fault. -/
theorem test_witness_BitClearAndBitSetWriteTheOperand :
    (Instr.res7_A.form = .res 7 .a ∧ operandValue .a State.reset = .ok 0x00) ∧
    (Instr.set0_IndHL.form = .set 0 .hlInd ∧
      operandValue .hlInd (nc [] { r0 with h := 0xC0 }) = .ok 0x00 ∧ ∃ t, routerWrite 0xC000 0x01 (nc [] { r0 with h := 0xC0 }) = .ok t) ∧
    (operandValue .hlInd State.reset = .ok 0x00 ∧ ∃ f, routerWrite State.reset.regs.hl 0x01 State.reset = .error f) ∧
    (∃ f, operandValue .hlInd (nc [] { r0 with h := 0xA0 }) = .error f) :=
  ⟨⟨rfl, rfl⟩, ⟨rfl, rfl, _, rfl⟩, ⟨rfl, _, rfl⟩, _, rfl⟩

/-- The first and the last register number on each side of 6; at 6 a read and a write that succeed and one of each that
faults; and the first number without a rank. -/
theorem test_witness_RankAccessorMapsZeroToSeven :
    ([(Rank.b, r0.b), (.c, r0.c), (.d, r0.d), (.e, r0.e), (.h, r0.h), (.l, r0.l)][0]? = some (.b, r0.b) ∧
      [(Rank.b, r0.b), (.c, r0.c), (.d, r0.d), (.e, r0.e), (.h, r0.h), (.l, r0.l)][5]? = some (.l, r0.l)) ∧
    routerRead State.reset.regs.hl State.reset = .ok 0x00 ∧
    (∃ f, routerRead (nc [] { r0 with h := 0xA0 }).regs.hl (nc [] { r0 with h := 0xA0 }) = .error f) ∧
    (∃ t, routerWrite (nc [] { r0 with h := 0xC0 }).regs.hl 0x5A (nc [] { r0 with h := 0xC0 }) = .ok t) ∧
    (∃ f, routerWrite State.reset.regs.hl 0x5A State.reset = .error f) ∧
    [Rank.b, .c, .d, .e, .h, .l, .hlInd, .a][7]? = some .a ∧ [Rank.b, .c, .d, .e, .h, .l, .hlInd, .a][6]? = some .hlInd ∧
    8 ≤ 8 :=
  ⟨⟨rfl, rfl⟩, rfl, ⟨_, rfl⟩, ⟨_, rfl⟩, ⟨_, rfl⟩, rfl, rfl, by decide⟩

theorem test_witness_OnlyFlagWritersChangeF :
    (∃ t, exec .ret State.reset = .next t) ∧ writesF Instr.ret.form = false ∧ (∃ t, exec .bit0_B State.reset = .next t) ∧
    Instr.bit0_B.form = .bit 0 .b := ⟨⟨_, rfl⟩, rfl, ⟨_, rfl⟩, rfl⟩

theorem test_witness_OnlyTheListedInstructionsMoveSpAndPc :
    (∃ t, exec (.jr 0x10) State.reset = .next t) ∧ writesSp (Instr.jr 0x10).form = false ∧ (∃ t, exec .pushBC State.reset = .next t) ∧
    writesPc Instr.pushBC.form = false := ⟨⟨_, rfl⟩, rfl, ⟨_, rfl⟩, rfl⟩

theorem test_witness_InstructionsThatStoreNothingKeepMemory :
    (∃ t, exec .popAF State.reset = .next t) ∧ storeTargets Instr.popAF.form State.reset = [] := ⟨⟨_, rfl⟩, rfl⟩

theorem pushBC_targets : storeTargets Instr.pushBC.form State.reset = [0xFFFE, 0xFFFF] := by decide

theorem ldIndHL_A_targets : storeTargets Instr.ldIndHL_A.form (mbc bank) = [0x0000] := by decide

/-- A SwitchableBank Console whose stack pointer is given. -/
def mbcSp (sp : Addr) : State := { mbc bank with regs := { r0 with sp := sp } }

theorem pushBC_targets_below_flat : storeTargets Instr.pushBC.form (mbcSp 0x8001) = [0x7FFF, 0x8000] := by decide

theorem pushBC_targets_wrapped : storeTargets Instr.pushBC.form (mbcSp 0x0001) = [0xFFFF, 0x0000] := by decide

/-- A store outside the control range, with a byte it leaves alone, and one inside it. -/
theorem test_witness_InstructionsChangeOnlyTheBytesTheyStore :
    (∃ t, exec .pushBC State.reset = .next t) ∧ (∀ a ∈ storeTargets Instr.pushBC.form State.reset, inControlRange a = false) ∧
    (∀ a ∈ storeTargets Instr.pushBC.form State.reset, (0x0000 : Addr) ∉ storedCells a) ∧
    (∃ t, exec .ldIndHL_A (mbc bank) = .next t) ∧ (∀ a ∈ storeTargets Instr.ldIndHL_A.form (mbc bank), inControlRange a = true) :=
  ⟨⟨_, rfl⟩, by rw [pushBC_targets]; simp [inControlRange], fun a ha => by
      rw [pushBC_targets] at ha; simp at ha; rcases ha with rfl | rfl <;> decide, ⟨_, rfl⟩,
    by rw [ldIndHL_A_targets]; simp [inControlRange]⟩

/-- A store to cartridge RAM of bank 0, which leaves the first byte of bank 1 alone. -/
theorem test_witness_ram_InstructionsChangeOnlyTheBytesTheyStore :
    (∃ t, exec .ldIndHL_A { mbc { bank with ramEnable := true } with regs := { r0 with h := 0xA0 } } = .next t) ∧
    storeTargets Instr.ldIndHL_A.form { mbc { bank with ramEnable := true } with regs := { r0 with h := 0xA0 } } = [0xA000] ∧
    0x2000 ≠ (0xA000 : Addr).toNat - 0xA000 + bank.ramBank.toNat * 0x2000 :=
  ⟨⟨_, rfl⟩, rfl, by decide⟩

/-- A PUSH whose low byte goes to the control range and whose high byte to 0x8000, with the flat cell above left alone. -/
theorem test_witness_straddle_InstructionsChangeOnlyTheBytesTheyStore :
    (∃ t, exec .pushBC (mbcSp 0x8001) = .next t) ∧ isFlatAddr (0x8001 : Addr).toNat = true ∧
    (∀ a ∈ storeTargets Instr.pushBC.form (mbcSp 0x8001), inControlRange a = false → (0x8001 : Addr) ∉ storedCells a) ∧
    (0x7FFF : Addr) ∈ storeTargets Instr.pushBC.form (mbcSp 0x8001) ∧ inControlRange 0x7FFF = true ∧
    (∀ a ∈ storeTargets Instr.pushBC.form (mbcSp 0x8001), a ≠ 0x7FFF → isFlatAddr a.toNat = true) := by
  rw [pushBC_targets_below_flat]
  exact ⟨⟨_, rfl⟩, by decide, by simp [inControlRange, storedCells, route], by decide, by decide, by simp [isFlatAddr]⟩

/-- A PUSH whose low byte goes to 0xFFFF and whose high byte to the control range at 0x0000. -/
theorem test_witness_wrap_InstructionsChangeOnlyTheBytesTheyStore :
    (∃ t, exec .pushBC (mbcSp 0x0001) = .next t) ∧ isFlatAddr (0xFFFE : Addr).toNat = true ∧
    (∀ a ∈ storeTargets Instr.pushBC.form (mbcSp 0x0001), inControlRange a = false → (0xFFFE : Addr) ∉ storedCells a) ∧
    (0x0000 : Addr) ∈ storeTargets Instr.pushBC.form (mbcSp 0x0001) ∧ inControlRange 0x0000 = true ∧
    (∀ a ∈ storeTargets Instr.pushBC.form (mbcSp 0x0001), a ≠ 0x0000 → isFlatAddr a.toNat = true) := by
  rw [pushBC_targets_wrapped]
  exact ⟨⟨_, rfl⟩, by decide, by simp [inControlRange, storedCells, route], by decide, by decide, by simp [isFlatAddr]⟩

theorem test_witness_StepKeepsTheInvariant :
    (State.reset.Inv ∧ ∃ t, step State.reset = .next t) ∧ (mbc bank).Inv ∧ ∃ t, step (mbc bank) = .next t :=
  ⟨⟨inv_reset, _, rfl⟩, inv_mbc, _, rfl⟩

theorem test_witness_StepKeepsTheImageControllerKindAndParameters : ∃ t, step (mbc bank) = .next t := ⟨_, rfl⟩

theorem test_witness_TheHookCounterIsNotArchitectural :
    { State.reset with ticks := (addHooks 5 State.reset).ticks } = addHooks 5 State.reset ∧ (∃ t, step State.reset = .next t) ∧
    ∃ t, step (addHooks 5 State.reset) = .next t := ⟨rfl, ⟨_, rfl⟩, _, rfl⟩

end Sys2Proof.Tests
end

section
/-! PROOFS. Memory (20_memory.md): the mirrored stores of work RAM and its echo, the plain bytes of the flat ranges,
the protected ROM of a NoController, and construction from an unsupported image. -/

namespace Sys2Proof.Machine

/-! ## The flat array behind the router -/

theorem State.Inv.flat_wf {s : State} (h : s.Inv) : s.flat.wf = true := by
  have := h.flat
  rw [Bool.and_eq_true] at this
  exact this.1

/-- Work RAM and everything above it lies outside the cartridge's ranges (R62). -/
theorem route_ne_cart_of_high {a : Addr} (h : 0xC000 ≤ a.toNat) : route a ≠ .cart := by
  rw [Ne, route_cart_iff]
  omega

/-- From work RAM on, a read returns the address's own flat cell (R66, R67). -/
theorem routerRead_of_high {a : Addr} (s : State) (h : 0xC000 ≤ a.toNat) : routerRead a s = .ok (s.flat.read a.toNat) :=
  routerRead_of_flat s (route_ne_cart_of_high h)

/-- Two writes of one value leave that value in both cells. -/
theorem Memory.read_write_pair {m : Memory} (h : m.wf = true) (a b : Nat) (v : Byte) :
    ((m.write a v).write b v).read a = v ∧ ((m.write a v).write b v).read b = v := by
  refine ⟨?_, Memory.read_write_same (Memory.wf_write h a v) b v⟩
  by_cases hab : a = b
  · subst hab
    exact Memory.read_write_same (Memory.wf_write h a v) a v
  · rw [Memory.read_write_other _ v hab, Memory.read_write_same h]

/-- A store to a cell and its mirror is read back at both addresses (R66). -/
theorem routerRead_storePair {a b : Addr} (v : Byte) {s : State} (hs : s.flat.wf = true)
    (ha : 0xC000 ≤ a.toNat) (hb : 0xC000 ≤ b.toNat) :
    routerRead a { s with flat := (s.flat.write a.toNat v).write b.toNat v } = .ok v ∧
    routerRead b { s with flat := (s.flat.write a.toNat v).write b.toNat v } = .ok v := by
  obtain ⟨hra, hrb⟩ := Memory.read_write_pair hs a.toNat b.toNat v
  rw [routerRead_of_high _ ha, routerRead_of_high _ hb]
  exact ⟨congrArg _ hra, congrArg _ hrb⟩

/-! ## The three cases of a store above cartridge RAM -/

/-- R64: a work-RAM store is also a store 0x2000 above. -/
theorem routerWrite_wram_mirrored {a : Addr} (v : Byte) {s : State} (hs : s.flat.wf = true)
    (hlo : 0xC000 ≤ a.toNat) (hhi : a.toNat ≤ 0xDFFF) :
    ∃ t, routerWrite a v s = .ok t ∧ routerRead a t = .ok v ∧ routerRead (a + 0x2000) t = .ok v := by
  have hmirror : 0xC000 ≤ (a + 0x2000).toNat := by bv_omega
  exact ⟨_, routerWrite_of_wram v s ((route_wram_iff a).2 ⟨hlo, hhi⟩), routerRead_storePair v hs hlo hmirror⟩

/-- R65: an echo store is also a store 0x2000 below. -/
theorem routerWrite_echo_mirrored {a : Addr} (v : Byte) {s : State} (hs : s.flat.wf = true)
    (hlo : 0xE000 ≤ a.toNat) (hhi : a.toNat ≤ 0xFDFF) :
    ∃ t, routerWrite a v s = .ok t ∧ routerRead a t = .ok v ∧ routerRead (a - 0x2000) t = .ok v := by
  have hmirror : 0xC000 ≤ (a - 0x2000).toNat := by bv_omega
  exact ⟨_, routerWrite_of_echo v s ((route_echo_iff a).2 ⟨hlo, hhi⟩), routerRead_storePair v hs (by omega) hmirror⟩

/-- R64, "the reverse does not hold": a store above the echo range has no mirror. -/
theorem routerWrite_above_echo_not_mirrored {a : Addr} (v : Byte) (s : State) (hlo : 0xFE00 ≤ a.toNat) :
    ∃ t, routerWrite a v s = .ok t ∧ routerRead (a - 0x2000) t = routerRead (a - 0x2000) s := by
  have hpartner : 0xC000 ≤ (a - 0x2000).toNat := by bv_omega
  have hne : (a - 0x2000).toNat ≠ a.toNat := by bv_omega
  refine ⟨_, routerWrite_of_flat v s ((route_flat_iff a).2 (.inr hlo)), ?_⟩
  rw [routerRead_of_high _ hpartner, routerRead_of_high _ hpartner, Memory.read_write_other _ v hne]

/-- Settles O16: one case for each of work RAM, its echo and the bytes above. -/
theorem workRamAndEchoStoresAreMirrored : Obligations.WorkRamAndEchoStoresAreMirrored := fun _ v s hs =>
  ⟨routerWrite_wram_mirrored v hs.flat_wf, routerWrite_echo_mirrored v hs.flat_wf,
    routerWrite_above_echo_not_mirrored v s⟩

/-- Settles O17: the router's flat case, and the canonical memory's read after a write. -/
theorem flatAddressesArePlainBytes : Obligations.FlatAddressesArePlainBytes := by
  intro a v s hs ha
  have hflat : route a = .flat := (route_flat_iff a).2 ha
  have hcart : route a ≠ .cart := by simp [hflat]
  exact ⟨routerRead_of_flat s hcart, s.flat.write a.toNat v, routerWrite_of_flat v s hflat,
    Memory.read_write_same hs.flat_wf a.toNat v, fun _ hb => Memory.read_write_other s.flat v hb⟩

/-! ## Construction and the NoController -/

/-- Settles O4: of the three cases of construction by the type byte, the last. -/
theorem unsupportedTypeByteFailsConstruction : Obligations.UnsupportedTypeByteFailsConstruction := by
  intro p img t ht h0 h1
  simp only [construct, ht, if_neg h0, if_neg h1]

/-- A NoController refuses every value at its ROM addresses (R78). -/
theorem cartWrite_noController_rom (policy : RamDisabledWrite) (rom : Image) {a : Addr} (v : Byte) (ha : a.toNat < 0x8000) :
    cartWrite policy (.noController rom) a v = .error (.writeToRom a v) := if_pos ha

/-- Settles O19: the router hands the store to the NoController, which refuses it. -/
theorem storesToNoControllerRomFault : Obligations.StoresToNoControllerRomFault := by
  intro rom a v s hc ha
  rw [routerWrite_of_cart v s ((route_cart_iff a).2 (.inl ha)), hc, cartWrite_noController_rom _ rom v ha]
  rfl

end Sys2Proof.Machine
end

section
/-! PROOFS. The ALU block (41_alu.md): what an ALU instruction does to the state, F after each primitive, and ADD, SUB, CP
and the logic operations from the two. -/

namespace Sys2Proof.Machine

/-! ## An ALU instruction whose operand is read -/

/-- The operand's hooks are counted, then the primitive's result is written (R181). -/
theorem exec_alu {i : Instr} {op : AluOp} {src : Rank} {s : State} {b : Byte} (hi : i.form = .alu op src)
    (hb : operandValue src s = .ok b) :
    exec i s = .next ((addHooks (operandHooks src) s).setRegs (s.regs.setAluResult op
      (aluPrimitive s.params.carryInMode op s.regs.a b s.regs.flags.c))) := by
  rw [exec_of_form hi]
  show ((readOperand src s).bind _).outcome = _
  rw [readOperand_of_ok hb]
  rfl

/-- Every operation but CP writes A, and F from the flags with no mask left over (R181). -/
theorem Regs.setAluResult_of_ne_cp {op : AluOp} (h : op ≠ .cp) (x : AluResult) (g : Regs) :
    g.setAluResult op x = { g with a := x.r, f := x.flags.toByte } := by
  have hf : g.setAluResult op x = { g with a := x.r, f := x.flags.toByte &&& 0xF0 } := by
    cases op with
    | cp => exact absurd rfl h
    | _ => rfl
  rw [hf, Flags.toByte_and_F0]

/-- An operation other than CP, from the values its primitive gives A and F. -/
theorem exec_alu_writes {i : Instr} {op : AluOp} {src : Rank} {s : State} {a b f : Byte} (hi : i.form = .alu op src)
    (hb : operandValue src s = .ok b) (hop : op ≠ .cp)
    (ha : (aluPrimitive s.params.carryInMode op s.regs.a b s.regs.flags.c).r = a)
    (hf : (aluPrimitive s.params.carryInMode op s.regs.a b s.regs.flags.c).flags.toByte = f) :
    exec i s = .next { addHooks (operandHooks src) s with regs := { s.regs with a := a, f := f } } := by
  rw [exec_alu hi hb, Regs.setAluResult_of_ne_cp hop, ha, hf]
  rfl

/-! ## A and F after a sum, a difference and a logic operation -/

theorem ofNat8_eq_zero_iff (n : Nat) : BitVec.ofNat 8 n = 0#8 ↔ n % 256 = 0 := by
  rw [← BitVec.toNat_inj, BitVec.toNat_ofNat, BitVec.toNat_ofNat]

theorem ofInt8_eq_zero_iff (d : Int) : BitVec.ofInt 8 d = 0#8 ↔ d % 256 = 0 := by
  rw [← BitVec.toNat_inj, BitVec.toNat_ofInt, BitVec.toNat_ofNat]
  omega

theorem ofInt8_emod (d : Int) : BitVec.ofInt 8 (d % 256) = BitVec.ofInt 8 d := by
  rw [← BitVec.toNat_inj, BitVec.toNat_ofInt, BitVec.toNat_ofInt]
  omega

/-- F after a sum: N is clear (R171, R172). -/
theorem sumResult_toByte (n half : Nat) :
    (sumResult n half).flags.toByte =
      (if n % 256 = 0 then 0x80 else 0) ||| (if half > 15 then 0x20 else 0) ||| (if n > 255 then 0x10 else 0) := by
  simp [sumResult, Flags.toByte, ofNat8_eq_zero_iff]

/-- F after a difference: N is set (R173, R174). -/
theorem differenceResult_toByte (d half : Int) :
    (differenceResult d half).flags.toByte =
      (if d % 256 = 0 then 0x80 else 0) ||| 0x40 ||| (if half < 0 then 0x20 else 0)
        ||| (if d < 0 then 0x10 else 0) := by
  simp [differenceResult, Flags.toByte, ofInt8_eq_zero_iff]

/-- F after a logic operation: Z from the result, H fixed by the operation, N and C clear (R175–R177). -/
theorem logicFlags_toByte (r : Byte) (h : Bool) :
    Flags.toByte { z := r == 0, n := false, h := h, c := false } =
      if r = 0 then (if h then 0xA0 else 0x80) else (if h then 0x20 else 0x00) := by
  by_cases hr : r = 0#8 <;> cases h <;> simp [Flags.toByte, hr]

/-! ## The obligations -/

/-- Settles O31: `exec_alu_writes` at ADD, whose primitive is a sum; the result is reduced modulo 256 by its width. -/
theorem addWritesTheSumAndItsFlags : Obligations.AddWritesTheSumAndItsFlags := fun _ _ _ _ hi hb =>
  exec_alu_writes hi hb (by decide) (eq_ofNat_of_toNat rfl) (sumResult_toByte _ _)

/-- Settles O32: `exec_alu_writes` at SUB, whose primitive is a difference; the result is reduced modulo 256 by its
width. -/
theorem subWritesTheDifferenceAndItsFlags : Obligations.SubWritesTheDifferenceAndItsFlags := fun _ _ _ _ hi hb =>
  exec_alu_writes hi hb (by decide) (ofInt8_emod _).symm (differenceResult_toByte _ _)

/-- Settles O33: CP and SUB run one primitive, and CP's state is SUB's but for A. -/
theorem compareWritesSubtractsFlagsOnly : Obligations.CompareWritesSubtractsFlagsOnly := by
  intro i j src s t b hi hj hb ht
  rw [exec_alu hj hb] at ht
  cases ht
  exact exec_alu hi hb

/-- Settles O35: `exec_alu_writes` at AND, whose H is set, and at XOR and OR, whose H is clear. -/
theorem logicOperationsWriteTheirFlags : Obligations.LogicOperationsWriteTheirFlags := fun _ _ _ _ hb =>
  ⟨fun hi => exec_alu_writes hi hb (by decide) rfl (logicFlags_toByte _ true),
    fun hi => exec_alu_writes hi hb (by decide) rfl (logicFlags_toByte _ false),
    fun hi => exec_alu_writes hi hb (by decide) rfl (logicFlags_toByte _ false)⟩

end Sys2Proof.Machine
end

section
/-! PROOFS. The decoder (30_encoding.md): what each table holds at an opcode, the round trip with the encoder in both
directions, and how the decoder's answer depends on the bytes that follow. -/

namespace Sys2Proof

/-! ## What the tables hold at an opcode -/

/-- What a table answers behind the opcode bytes `op`, whatever follows them: a format without operand, with an operand
byte or with an operand word, each encoded by the opcode and its operand, or no format (R123–R129, R135, R136, R142). -/
inductive TableEntry (op : List Byte) (table : List Byte → Decoded Form) : Prop where
  | bare (f : Form) (entry : ∀ rest, table rest = .ok (f, rest)) (bytes : f.encode = op)
  | byte (k : Byte → Form) (entry : ∀ rest, table rest = withByte k rest) (bytes : ∀ v, (k v).encode = op ++ [v])
  | word (k : Addr → Form) (entry : ∀ rest, table rest = withWord k rest) (bytes : ∀ v, (k v).encode = op ++ wordBytes v)
  | unknown (entry : ∀ rest, table rest = .error (.unknownOpcode op))

theorem TableEntry.congr {op : List Byte} {table table' : List Byte → Decoded Form} (h : TableEntry op table)
    (same : ∀ rest, table' rest = table rest) : TableEntry op table' :=
  (funext same : table' = table) ▸ h

theorem bitVec2_cases (x : BitVec 2) : x = 0#2 ∨ x = 1#2 ∨ x = 2#2 ∨ x = 3#2 := by
  revert x; decide

/-- A low nibble of 6 or 0xE has 6 in its low three bits. -/
theorem low3_of_low4 {op : Byte} (h : (op.extractLsb' 0 4).toNat = 0x6 ∨ (op.extractLsb' 0 4).toNat = 0xE) :
    op.extractLsb' 0 3 = 0b110#3 := by
  refine eq_ofNat_of_toNat (n := 6) ?_
  simp only [BitVec.extractLsb'_toNat, Nat.shiftRight_zero] at h ⊢
  omega

/-- The quarter 0x00–0x3F, by the low nibble of the opcode. -/
theorem decodeQuarter0_entry {op : Byte} (hq : op.extractLsb' 6 2 = 0b00#2) : TableEntry [op] (decodeQuarter0 op) := by
  have fields := byte_fields op
  have nibbles := byte_nibbles op
  rw [hq] at nibbles fields
  by_cases h1 : (op.extractLsb' 0 4).toNat = 0x1
  · rw [eq_ofNat_of_toNat h1] at nibbles
    exact .word (.ldPair (Dest16.ofCode (op.extractLsb' 4 2))) (fun _ => by simp only [decodeQuarter0, h1])
      fun _ => by simp [Form.encode, nibbles]
  by_cases h2 : (op.extractLsb' 0 4).toNat = 0x2
  · rw [eq_ofNat_of_toNat h2] at nibbles
    exact .bare (.storeInd (IndMode.ofCode (op.extractLsb' 4 2))) (fun _ => by simp only [decodeQuarter0, h2])
      (by simp [Form.encode, nibbles])
  by_cases hA : (op.extractLsb' 0 4).toNat = 0xA
  · rw [eq_ofNat_of_toNat hA] at nibbles
    exact .bare (.loadInd (IndMode.ofCode (op.extractLsb' 4 2))) (fun _ => by simp only [decodeQuarter0, hA])
      (by simp [Form.encode, nibbles])
  by_cases h6E : (op.extractLsb' 0 4).toNat = 0x6 ∨ (op.extractLsb' 0 4).toNat = 0xE
  · rw [low3_of_low4 h6E] at fields
    refine .byte (.ldImm (Rank.ofCode (op.extractLsb' 3 3))) (fun _ => ?_) fun _ => by simp [Form.encode, fields]
    rcases h6E with h | h <;> simp only [decodeQuarter0, h]
  by_cases h0 : (op.extractLsb' 0 4).toNat = 0x0
  · rw [eq_ofNat_of_toNat h0] at nibbles
    rcases bitVec2_cases (op.extractLsb' 4 2) with h | h | h | h <;> rw [h] at nibbles <;> subst nibbles
    · exact .bare .nop (fun _ => rfl) rfl
    · exact .unknown fun _ => rfl
    · exact .byte (.jrCond .nz) (fun _ => rfl) fun _ => rfl
    · exact .byte (.jrCond .nc) (fun _ => rfl) fun _ => rfl
  by_cases h8 : (op.extractLsb' 0 4).toNat = 0x8
  · rw [eq_ofNat_of_toNat h8] at nibbles
    rcases bitVec2_cases (op.extractLsb' 4 2) with h | h | h | h <;> rw [h] at nibbles <;> subst nibbles
    · exact .unknown fun _ => rfl
    · exact .byte .jr (fun _ => rfl) fun _ => rfl
    · exact .byte (.jrCond .z) (fun _ => rfl) fun _ => rfl
    · exact .byte (.jrCond .c) (fun _ => rfl) fun _ => rfl
  obtain ⟨h6, hE⟩ := not_or.1 h6E
  exact .unknown fun _ => by simp only [decodeQuarter0]

/-- The quarter 0xC0–0xFF, by the low nibble for POP and PUSH and by the whole opcode for the rest. -/
theorem decodeQuarter3_entry {op : Byte} (hq : op.extractLsb' 6 2 = 0b11#2) : TableEntry [op] (decodeQuarter3 op) := by
  have nibbles := byte_nibbles op
  rw [hq] at nibbles
  by_cases h1 : (op.extractLsb' 0 4).toNat = 0x1
  · rw [eq_ofNat_of_toNat h1] at nibbles
    exact .bare (.pop (Pair.ofCode (op.extractLsb' 4 2))) (fun _ => by simp only [decodeQuarter3, h1])
      (by simp [Form.encode, nibbles])
  by_cases h5 : (op.extractLsb' 0 4).toNat = 0x5
  · rw [eq_ofNat_of_toNat h5] at nibbles
    exact .bare (.push (Pair.ofCode (op.extractLsb' 4 2))) (fun _ => by simp only [decodeQuarter3, h5])
      (by simp [Form.encode, nibbles])
  by_cases hC9 : op.toNat = 0xC9
  · obtain rfl := eq_ofNat_of_toNat hC9
    exact .bare .ret (fun _ => rfl) rfl
  by_cases hCD : op.toNat = 0xCD
  · obtain rfl := eq_ofNat_of_toNat hCD
    exact .word .call (fun _ => rfl) fun _ => rfl
  by_cases hE0 : op.toNat = 0xE0
  · obtain rfl := eq_ofNat_of_toNat hE0
    exact .byte .storeHigh (fun _ => rfl) fun _ => rfl
  by_cases hE2 : op.toNat = 0xE2
  · obtain rfl := eq_ofNat_of_toNat hE2
    exact .bare .storeHighC (fun _ => rfl) rfl
  by_cases hF0 : op.toNat = 0xF0
  · obtain rfl := eq_ofNat_of_toNat hF0
    exact .byte .loadHigh (fun _ => rfl) fun _ => rfl
  by_cases hF2 : op.toNat = 0xF2
  · obtain rfl := eq_ofNat_of_toNat hF2
    exact .bare .loadHighC (fun _ => rfl) rfl
  exact .unknown fun _ => by simp only [decodeQuarter3]

/-- The primary table, quarter by quarter (R122, R134). -/
theorem decodePrimary_entry (op : Byte) : TableEntry [op] (decodePrimary op) := by
  by_cases h76 : op = 0x76#8
  · subst h76
    exact .bare .halt (fun _ => rfl) rfl
  have fields := byte_fields op
  rcases bitVec2_cases (op.extractLsb' 6 2) with h | h | h | h
  · exact (decodeQuarter0_entry h).congr fun _ => by simp [decodePrimary, h76, h]
  · rw [h] at fields
    exact .bare (.ld (Rank.ofCode (op.extractLsb' 3 3)) (Rank.ofCode (op.extractLsb' 0 3)))
      (fun _ => by simp [decodePrimary, h76, h]) (by simp [Form.encode, fields])
  · rw [h] at fields
    exact .bare (.alu (AluOp.ofCode (op.extractLsb' 3 3)) (Rank.ofCode (op.extractLsb' 0 3)))
      (fun _ => by simp [decodePrimary, h76, h]) (by simp [Form.encode, fields])
  · exact (decodeQuarter3_entry h).congr fun _ => by simp [decodePrimary, h76, h]

/-- The extended table, quarter by quarter (R129, R136). -/
theorem decodeExtended_entry (op2 : Byte) : TableEntry [0xCB, op2] fun rest => decodeExtended (op2 :: rest) := by
  have fields := byte_fields op2
  rcases bitVec2_cases (op2.extractLsb' 6 2) with h | h | h | h <;> rw [h] at fields
  · exact .unknown fun _ => by simp [decodeExtended, h]
  · exact .bare (.bit (op2.extractLsb' 3 3).toFin (Rank.ofCode (op2.extractLsb' 0 3)))
      (fun _ => by simp [decodeExtended, h]) (by rw [Form.encode, bitField_toFin, Rank.code_ofCode, fields])
  · exact .bare (.res (op2.extractLsb' 3 3).toFin (Rank.ofCode (op2.extractLsb' 0 3)))
      (fun _ => by simp [decodeExtended, h]) (by rw [Form.encode, bitField_toFin, Rank.code_ofCode, fields])
  · exact .bare (.set (op2.extractLsb' 3 3).toFin (Rank.ofCode (op2.extractLsb' 0 3)))
      (fun _ => by simp [decodeExtended, h]) (by rw [Form.encode, bitField_toFin, Rank.code_ofCode, fields])

/-! ## What every table does -/

section Table

variable {op : List Byte} {table : List Byte → Decoded Form} (entry : TableEntry op table)
include entry

/-- The opcode and the bytes read behind it are the encoding of the format found. -/
theorem TableEntry.sound {bytes rest : List Byte} {f : Form} (h : table bytes = .ok (f, rest)) :
    op ++ bytes = f.encode ++ rest := by
  cases entry with
  | bare f' entry he =>
    rw [entry] at h
    cases h
    rw [he]
  | byte k entry he =>
    rw [entry] at h
    obtain ⟨v, rfl, rfl⟩ := withByte_inv h
    simp [he]
  | word k entry he =>
    rw [entry] at h
    obtain ⟨v, rfl, rfl⟩ := withWord_inv h
    simp [he]
  | unknown entry =>
    rw [entry] at h
    cases h

/-- An unknown opcode is unknown whatever follows it. -/
theorem TableEntry.append_of_unknown {bytes op' : List Byte} (more : List Byte)
    (h : table bytes = .error (.unknownOpcode op')) : table (bytes ++ more) = .error (.unknownOpcode op') := by
  cases entry with
  | bare f entry => rw [entry] at h; cases h
  | byte k entry => rw [entry] at h; unfold withByte at h; split at h <;> cases h
  | word k entry => rw [entry] at h; unfold withWord at h; split at h <;> cases h
  | unknown entry => rw [entry] at h ⊢; exact h

/-- Only a missing operand byte makes an answer wait for more. -/
theorem TableEntry.length_of_truncated {bytes : List Byte} (h : table bytes = .error .truncated) : bytes.length ≤ 1 := by
  cases entry with
  | bare f entry => rw [entry] at h; cases h
  | byte k entry => rw [entry] at h; unfold withByte at h; split at h <;> cases h; simp
  | word k entry =>
    rw [entry] at h
    match bytes, h with
    | [], _ | [_], _ => simp
  | unknown entry => rw [entry] at h; cases h

end Table

/-- The extended table never waits behind its second byte. -/
theorem decodeExtended_ne_truncated (op2 : Byte) (rest : List Byte) :
    decodeExtended (op2 :: rest) ≠ .error .truncated := by
  unfold decodeExtended
  dsimp only
  split <;> simp

/-! ## Decoding to a format -/

/-- What is decoded to a format begins with an admitted opcode and is the format's encoding. -/
theorem decodeForm_sound {p : Params} {bytes rest : List Byte} {f : Form} (h : decodeForm p bytes = .ok (f, rest)) :
    bytes = f.encode ++ rest ∧ p.admits (bytes.headD 0) = true := by
  unfold decodeForm at h
  split at h
  · cases h
  · rename_i op tail
    split_ifs at h with hcb ha
    · subst hcb
      match tail, h with
      | op2 :: tail, h => exact ⟨(decodeExtended_entry op2).sound h, rfl⟩
    · exact ⟨(decodePrimary_entry op).sound h, ha⟩

/-- No bytes are decoded to LD (HL),(HL): HALT stands in its place (R123). -/
theorem decodeForm_ne_ld_hlInd_hlInd {p : Params} {bytes rest : List Byte} {f : Form}
    (h : decodeForm p bytes = .ok (f, rest)) : f ≠ .ld .hlInd .hlInd := by
  rintro rfl
  obtain ⟨rfl, ha⟩ := decodeForm_sound h
  have ha : p.admits 0x76 = true := ha
  have hhalt := (decodeForm_admitted rest (by decide) ha).symm.trans h
  cases hhalt

theorem decodeForm_append_of_unknown {p : Params} {bytes op : List Byte} (more : List Byte)
    (h : decodeForm p bytes = .error (.unknownOpcode op)) : decodeForm p (bytes ++ more) = .error (.unknownOpcode op) := by
  unfold decodeForm at h ⊢
  split at h
  · cases h
  · rename_i op tail
    simp only [List.cons_append]
    split_ifs at h ⊢ with hcb ha
    · match tail, h with
      | op2 :: tail, h => exact (decodeExtended_entry op2).append_of_unknown more h
    · exact (decodePrimary_entry op).append_of_unknown more h
    · exact h

theorem decodeForm_length_of_truncated {p : Params} {bytes : List Byte} (h : decodeForm p bytes = .error .truncated) :
    bytes.length ≤ 2 := by
  unfold decodeForm at h
  split at h
  · simp
  · rename_i op tail
    split_ifs at h with hcb ha
    · match tail, h with
      | [], _ => simp
      | op2 :: tail, h => exact absurd h (decodeExtended_ne_truncated op2 tail)
    · exact Nat.succ_le_succ ((decodePrimary_entry op).length_of_truncated h)
    · cases h

/-- A format that the primary table finds behind an admitted opcode. -/
theorem decodeForm_of_primary {p : Params} {op : Byte} {bytes rest : List Byte} {f : Form} (ha : p.admits op = true)
    (hop : op ≠ 0xCB) (h : decodePrimary op bytes = .ok (f, rest)) : decodeForm p (op :: bytes) = .ok (f, rest) := by
  rw [decodeForm_admitted bytes hop ha, h]

/-- The decoder finds every format but LD (HL),(HL) in its encoding. -/
theorem decodeForm_encode {p : Params} {f : Form} (rest : List Byte) (hf : f ≠ .ld .hlInd .hlInd)
    (ha : p.admits (f.encode.headD 0) = true) : decodeForm p (f.encode ++ rest) = .ok (f, rest) := by
  cases f with
  | nop | halt | jr _ | ret | storeHigh _ | loadHigh _ | storeHighC | loadHighC =>
    exact decodeForm_of_primary ha (by decide) rfl
  | call a16 => exact decodeForm_of_primary ha (by decide) (withWord_wordBytes _ a16 rest)
  | ld dst src =>
    cases dst <;> cases src <;> first | exact absurd rfl hf | exact decodeForm_of_primary ha (by decide) rfl
  | alu op src => cases op <;> cases src <;> exact decodeForm_of_primary ha (by decide) rfl
  | ldImm dst d8 => exact decodeForm_of_primary ha (by cases dst <;> decide) (decodePrimary_ldImm dst _)
  | ldPair dst d16 =>
    exact decodeForm_of_primary ha (by cases dst <;> decide)
      ((decodePrimary_ldPair dst _).trans (withWord_wordBytes _ d16 rest))
  | jrCond cc e8 => exact decodeForm_of_primary ha (by cases cc <;> decide) (decodePrimary_jrCond cc _)
  | storeInd m | loadInd m => cases m <;> exact decodeForm_of_primary ha (by decide) rfl
  | push q | pop q => cases q <;> exact decodeForm_of_primary ha (by decide) rfl
  | bit n r | res n r | set n r => fin_cases n <;> cases r <;> rfl

/-! ## Decoding to an instruction -/

theorem Instr.form_ne_ld_hlInd_hlInd (i : Instr) : i.form ≠ .ld .hlInd .hlInd := by
  intro h
  have := i.row_form
  rw [h] at this
  cases this

theorem decode_eq_ok_iff {p : Params} {bytes rest : List Byte} {i : Instr} :
    decode p bytes = .ok (i, rest) ↔ decodeForm p bytes = .ok (i.form, rest) := by
  unfold decode
  cases decodeForm p bytes with
  | error e => simp
  | ok x =>
    obtain ⟨f, r⟩ := x
    cases hf : f.instr? with
    | none =>
      have : f ≠ i.form := fun e => by rw [e, i.row_form] at hf; cases hf
      simp [hf, this]
    | some j =>
      have : j = i ↔ f = i.form := by
        rw [← Form.form_row hf]
        exact (Instr.form_eq_iff i j).symm
      simp [hf, this]

/-- The decoder rejects what has no format, and nothing else: every format found has a row. -/
theorem decode_eq_error_iff {p : Params} {bytes : List Byte} {e : DecodeError} :
    decode p bytes = .error e ↔ decodeForm p bytes = .error e := by
  cases h : decodeForm p bytes with
  | error e' => simp [decode, h]
  | ok x =>
    obtain ⟨f, r⟩ := x
    obtain ⟨i, hi⟩ := f.row_exists (decodeForm_ne_ld_hlInd_hlInd h)
    simp [decode, h, hi]

/-- Settles O7: a row's format is found in its encoding. -/
theorem decodeOfEncodeGivesTheInstruction : Obligations.DecodeOfEncodeGivesTheInstruction := fun _ i rest hwf =>
  decode_eq_ok_iff.2 (decodeForm_encode rest i.form_ne_ld_hlInd_hlInd hwf)

theorem Form.headD_encode_append (f : Form) (rest : List Byte) : (f.encode ++ rest).headD 0 = f.encode.headD 0 := by
  cases f <;> rfl

/-- Settles O8: what a table finds is the encoding of the format found, behind an admitted opcode. -/
theorem encodeOfDecodeGivesTheBytes : Obligations.EncodeOfDecodeGivesTheBytes := by
  intro p bytes rest i h
  obtain ⟨rfl, ha⟩ := decodeForm_sound (decode_eq_ok_iff.1 h)
  rw [Form.headD_encode_append] at ha
  exact ⟨rfl, ha⟩

/-! ## Bytes that follow -/

/-- Bytes behind an instruction are left over. -/
theorem decode_append_of_ok {p : Params} {bytes rest : List Byte} {i : Instr} (more : List Byte)
    (h : decode p bytes = .ok (i, rest)) : decode p (bytes ++ more) = .ok (i, rest ++ more) := by
  obtain ⟨rfl, hwf⟩ := encodeOfDecodeGivesTheBytes p bytes rest i h
  rw [List.append_assoc]
  exact decodeOfEncodeGivesTheInstruction p i (rest ++ more) hwf

theorem decode_append_of_unknown {p : Params} {bytes op : List Byte} (more : List Byte)
    (h : decode p bytes = .error (.unknownOpcode op)) : decode p (bytes ++ more) = .error (.unknownOpcode op) :=
  decode_eq_error_iff.2 (decodeForm_append_of_unknown more (decode_eq_error_iff.1 h))

/-- Bytes that ask for more did so from the first on. -/
theorem decode_truncated_of_append {p : Params} {bytes more : List Byte}
    (h : decode p (bytes ++ more) = .error .truncated) : decode p bytes = .error .truncated := by
  match hb : decode p bytes with
  | .ok (i, rest) => rw [decode_append_of_ok more hb] at h; cases h
  | .error (.unknownOpcode op) => rw [decode_append_of_unknown more hb] at h; cases h
  | .error .truncated => rfl

/-- The bytes of an instruction ask for more until the last of them. -/
theorem decode_truncated_of_whole {p : Params} {bytes : List Byte} {v : Byte} {i : Instr}
    (h : decode p (bytes ++ [v]) = .ok (i, [])) : decode p bytes = .error .truncated := by
  match hb : decode p bytes with
  | .ok (i, rest) => rw [decode_append_of_ok [v] hb] at h; simp at h
  | .error (.unknownOpcode op) => rw [decode_append_of_unknown [v] hb] at h; cases h
  | .error .truncated => rfl

theorem decode_length_of_truncated {p : Params} {bytes : List Byte} (h : decode p bytes = .error .truncated) :
    bytes.length ≤ 2 :=
  decodeForm_length_of_truncated (decode_eq_error_iff.1 h)

/-- Settles O6: each word is evaluated. -/
theorem wordsOfTheSpecDecode : Obligations.WordsOfTheSpecDecode := by
  unfold Obligations.WordsOfTheSpecDecode
  and_intros <;> rfl

end Sys2Proof
end

section
/-! PROOFS. The bank controller and the frame of a byte store (20_memory.md): what each range of a controller reads, what
each store to it writes, and which bytes a store leaves alone. -/

namespace Sys2Proof.Machine

/-! ## Routing of the cartridge's ranges -/

theorem route_of_rom {a : Addr} (h : a.toNat < 0x8000) : route a = .cart := (route_cart_iff a).2 (.inl h)

theorem route_of_ram {a : Addr} (hlo : 0xA000 ≤ a.toNat) (hhi : a.toNat ≤ 0xBFFF) : route a = .cart :=
  (route_cart_iff a).2 (.inr ⟨hlo, hhi⟩)

/-- The flat array backs every address that the cartridge does not (R35, R62). -/
theorem isFlatAddr_iff_route (a : Addr) : isFlatAddr a.toNat = true ↔ route a ≠ .cart := by
  have := a.isLt
  rw [Ne, route_cart_iff]
  simp only [isFlatAddr, Bool.or_eq_true, Bool.and_eq_true, decide_eq_true_eq]
  omega

/-! ## Reads -/

theorem romRead_of_some {rom : Image} {a : Addr} {i : Nat} {v : Byte} (h : rom.byte? i = some v) :
    romRead rom a i = .ok v := by
  simp [romRead, h]

theorem romRead_of_none {rom : Image} {a : Addr} {i : Nat} (h : rom.byte? i = none) :
    romRead rom a i = .error (.imageBounds a i) := by
  simp [romRead, h]

/-- A filter by address keeps the bytes of the addresses it keeps. -/
theorem Memory.read_filter (m : Memory) (ok : Nat → Bool) {a : Nat} (h : ok a = true) :
    Memory.read (m.filter fun c => ok c.1) a = m.read a := by
  induction m with
  | nil => rfl
  | cons c m ih =>
    obtain ⟨k, v⟩ := c
    by_cases hk : a = k
    · subst hk
      simp [h, Memory.read]
    · cases hok : ok k <;> simp [hok, Memory.read, hk, ih]

/-- The first bytes of an image are the image's bytes. -/
theorem byte?_firstBytes (img : Image) {n i : Nat} (h : i < n) : (img.firstBytes n).byte? i = img.byte? i := by
  have hread : Memory.read (img.firstBytes n).cells i = Memory.read img.cells i :=
    Memory.read_filter img.cells (fun k => decide (k < n)) (decide_eq_true h)
  unfold Image.byte?
  rw [hread]
  simp [Image.firstBytes, h]

theorem routerRead_noController_rom {rom : Image} {a : Addr} {s : State} (hc : s.cart = .noController rom)
    (ha : a.toNat < 0x8000) : routerRead a s = romRead rom a a.toNat := by
  rw [routerRead_of_cart s (route_of_rom ha), hc]
  exact if_pos ha

/-- Settles O20: the NoController's three cases; what it keeps of the image is the image's own first bytes. -/
theorem noControllerReadsTheFirst32KiB : Obligations.NoControllerReadsTheFirst32KiB := by
  intro img a s hc
  refine ⟨fun ha v hv => ?_, fun ha hv => ?_, fun hlo hhi => ?_⟩
  · rw [routerRead_noController_rom hc ha]
    exact romRead_of_some ((byte?_firstBytes img ha).trans hv)
  · rw [routerRead_noController_rom hc ha]
    exact romRead_of_none ((byte?_firstBytes img ha).trans hv)
  · rw [routerRead_of_cart s (route_of_ram hlo hhi), hc]
    exact if_neg (by omega)

/-- A SwitchableBank reads its ROM at the index of the spec: bank 0 below 0x4000, the selected bank above (R82, R83). -/
theorem routerRead_switchableBank_rom {m : SwitchableBank} {a : Addr} {s : State} {index : Nat}
    (hc : s.cart = .switchableBank m)
    (hindex : (a.toNat < 0x4000 ∧ index = a.toNat) ∨
      (0x4000 ≤ a.toNat ∧ a.toNat < 0x8000 ∧ (index : Int) = a.toNat + ((m.romBank.toNat : Int) - 1) * 0x4000)) :
    routerRead a s = romRead m.rom a index := by
  rcases hindex with ⟨ha, rfl⟩ | ⟨hlo, hhi, hindex⟩
  · rw [routerRead_of_cart s (route_of_rom (by omega)), hc]
    exact if_pos ha
  · have : index = m.romIndex a := by unfold SwitchableBank.romIndex; omega
    rw [routerRead_of_cart s (route_of_rom hhi), hc, this]
    exact (if_neg (by omega)).trans (if_pos hhi)

/-- Settles O21: both ranges read the ROM at one index. -/
theorem switchableBankReadsTheSelectedRomBank : Obligations.SwitchableBankReadsTheSelectedRomBank := by
  intro m a s index hc hindex
  rw [routerRead_switchableBank_rom hc hindex]
  exact ⟨fun _ => romRead_of_some, romRead_of_none⟩

theorem routerRead_switchableBank_ram {m : SwitchableBank} {a : Addr} {s : State} (hc : s.cart = .switchableBank m)
    (hlo : 0xA000 ≤ a.toNat) (hhi : a.toNat ≤ 0xBFFF) : routerRead a s = .ok (m.ram.read (m.ramIndex a)) := by
  rw [routerRead_of_cart s (route_of_ram hlo hhi), hc]
  exact (if_neg (by omega)).trans (if_neg (by omega))

/-! ## Stores -/

/-- A control store is decided by the range of its address (R85–R88). -/
theorem routerWrite_switchableBank_control {m : SwitchableBank} {a : Addr} (v : Byte) {s : State}
    (hc : s.cart = .switchableBank m) (ha : a.toNat < 0x8000) :
    routerWrite a v s = .ok { s with cart := .switchableBank (m.writeControl a v) } :=
  routerWrite_control_ok v (decide_eq_true ha) hc

theorem writeControl_ramEnable (m : SwitchableBank) (v : Byte) {a : Addr} (h : a.toNat ≤ 0x1FFF) :
    m.writeControl a v = m.writeRamEnable v := if_pos (by omega)

theorem writeControl_romBankLow (m : SwitchableBank) (v : Byte) {a : Addr} (hlo : 0x2000 ≤ a.toNat)
    (hhi : a.toNat ≤ 0x3FFF) : m.writeControl a v = m.writeRomBankLow v := by
  unfold SwitchableBank.writeControl
  rw [if_neg (by omega), if_pos (by omega)]

theorem writeControl_bankHigh (m : SwitchableBank) (v : Byte) {a : Addr} (hlo : 0x4000 ≤ a.toNat)
    (hhi : a.toNat ≤ 0x5FFF) : m.writeControl a v = m.writeBankHigh v := by
  unfold SwitchableBank.writeControl
  rw [if_neg (by omega), if_neg (by omega), if_pos (by omega)]

theorem writeControl_mode (m : SwitchableBank) (v : Byte) {a : Addr} (h : 0x6000 ≤ a.toNat) :
    m.writeControl a v = m.writeMode v := by
  unfold SwitchableBank.writeControl
  rw [if_neg (by omega), if_neg (by omega), if_neg (by omega)]

theorem and_0F_toNat (v : Byte) : (v &&& 0x0F).toNat = v.toNat % 16 := by
  rw [BitVec.toNat_and]
  exact Nat.and_two_pow_sub_one_eq_mod v.toNat 4

theorem writeRamEnable_eq (v : Byte) (m : SwitchableBank) :
    m.writeRamEnable v = { m with ramEnable := decide (v.toNat % 16 = 0xA) } := by
  have : (v &&& 0x0F == 0x0A) = decide (v.toNat % 16 = 0xA) := by
    rw [← and_0F_toNat, Bool.eq_iff_iff, beq_iff_eq, decide_eq_true_iff, ← BitVec.toNat_inj]
    rfl
  rw [SwitchableBank.writeRamEnable, this]

/-- A ROM bank from its two fields, by number. -/
theorem romBank_eq_ofNat (hi : BitVec 2) (lo : BitVec 5) : hi ++ lo = BitVec.ofNat 7 (hi.toNat * 32 + lo.toNat) := by
  revert hi lo; decide

theorem low5_toNat {w : Nat} (x : BitVec w) : (x.extractLsb' 0 5).toNat = x.toNat % 32 := by
  simp

theorem low2_toNat {w : Nat} (x : BitVec w) : (x.extractLsb' 0 2).toNat = x.toNat % 4 := by
  simp

theorem high2_toNat (x : BitVec 7) : (x.extractLsb' 5 2).toNat = x.toNat / 32 := by
  revert x; decide

theorem writeRomBankLow_eq (v : Byte) (m : SwitchableBank) :
    m.writeRomBankLow v = { m with
      romBank := BitVec.ofNat 7 (m.romBank.toNat / 32 * 32 + (if v.toNat % 32 = 0 then 1 else v.toNat % 32)) } := by
  have hzero : v.extractLsb' 0 5 = 0 ↔ v.toNat % 32 = 0 := by
    rw [← BitVec.toNat_inj, low5_toNat]
    rfl
  unfold SwitchableBank.writeRomBankLow
  dsimp only
  rw [romBank_eq_ofNat, high2_toNat]
  by_cases h : v.toNat % 32 = 0
  · rw [if_pos h, if_pos (hzero.2 h)]
    rfl
  · rw [if_neg h, if_neg (mt hzero.1 h), low5_toNat]

theorem writeBankHigh_of_romBanking (v : Byte) {m : SwitchableBank} (h : m.mode = .romBanking) :
    m.writeBankHigh v = { m with romBank := BitVec.ofNat 7 (v.toNat % 4 * 32 + m.romBank.toNat % 32) } := by
  unfold SwitchableBank.writeBankHigh
  rw [h]
  dsimp only
  rw [romBank_eq_ofNat, low2_toNat, low5_toNat]

theorem writeBankHigh_of_ramBanking (v : Byte) {m : SwitchableBank} (h : m.mode = .ramBanking) :
    m.writeBankHigh v = { m with ramBank := BitVec.ofNat 2 (v.toNat % 4) } := by
  unfold SwitchableBank.writeBankHigh
  rw [h]
  dsimp only
  rw [eq_ofNat_of_toNat (low2_toNat v)]

theorem writeMode_eq (v : Byte) (m : SwitchableBank) :
    m.writeMode v = { m with mode := if v.getLsbD 0 then .ramBanking else .romBanking } := by
  have hbit : v &&& 1 = 0 ↔ v.getLsbD 0 = false := by
    revert v; decide
  unfold SwitchableBank.writeMode
  cases h : v.getLsbD 0
  · rw [if_pos (hbit.2 h)]
    rfl
  · rw [if_neg (fun h0 => Bool.false_ne_true ((hbit.1 h0).symm.trans h))]
    rfl

/-- Settles O22: one case for each range, the last by the mode. -/
theorem bankRegisterStores : Obligations.BankRegisterStores := by
  intro m a v s hc
  refine ⟨fun h => ?_, fun hlo hhi => ?_, fun hlo hhi hmode => ?_, fun hlo hhi hmode => ?_⟩ <;>
    rw [routerWrite_switchableBank_control v hc (by omega)]
  · rw [writeControl_ramEnable m v h, writeRamEnable_eq]
  · rw [writeControl_romBankLow m v hlo hhi, writeRomBankLow_eq]
  · rw [writeControl_bankHigh m v hlo hhi, writeBankHigh_of_ramBanking v hmode]
  · rw [writeControl_bankHigh m v hlo hhi, writeBankHigh_of_romBanking v hmode]

/-- Settles O23: the last range of the control stores. -/
theorem bankingModeStores : Obligations.BankingModeStores := by
  intro m a v s hc hlo hhi
  rw [routerWrite_switchableBank_control v hc (by omega), writeControl_mode m v hlo, writeMode_eq]

/-- A store to the cartridge RAM window is decided by RAM enable, then by the policy (R89, R90). -/
theorem cartWrite_switchableBank_ram (policy : RamDisabledWrite) (m : SwitchableBank) {a : Addr} (v : Byte)
    (ha : 0xA000 ≤ a.toNat) :
    cartWrite policy (.switchableBank m) a v =
      if m.ramEnable then .ok (.switchableBank { m with ram := m.ram.write (m.ramIndex a) v })
      else match policy with
        | .fault => .error (.cartRamWriteDisabled a v)
        | .ignore => .ok (.switchableBank m) :=
  if_neg (by omega)

theorem ramIndex_lt (m : SwitchableBank) {a : Addr} (hhi : a.toNat ≤ 0xBFFF) : m.ramIndex a < 0x8000 := by
  have := m.ramBank.isLt
  unfold SwitchableBank.ramIndex
  omega

/-- Settles O24: the read, and the store with RAM enabled, use one index. -/
theorem cartridgeRamReadsAndStores : Obligations.CartridgeRamReadsAndStores := by
  intro m a s index hc hlo hhi hindex
  have hindex : index = m.ramIndex a := hindex
  subst hindex
  refine ⟨Nat.le_of_lt_succ (ramIndex_lt m hhi), routerRead_switchableBank_ram hc hlo hhi, fun hen v hwf => ?_⟩
  refine ⟨m.ram.write (m.ramIndex a) v, ?_, Memory.read_write_same hwf _ v, fun k hk => Memory.read_write_other _ v hk⟩
  rw [routerWrite_of_cart v s (route_of_ram hlo hhi), hc, cartWrite_switchableBank_ram _ m v hlo, if_pos hen]
  rfl

/-- Settles O25: the NoController's refusal, and the two policies. -/
theorem disabledCartridgeRamStores : Obligations.DisabledCartridgeRamStores := by
  intro a v s hlo hhi
  rw [routerWrite_of_cart v s (route_of_ram hlo hhi)]
  refine ⟨fun rom hc => ?_, fun m hc hen hpol => ?_, fun m hc hen hpol => ?_⟩
  · rw [hc, show cartWrite _ (.noController rom) a v = _ from if_neg (by omega)]
    rfl
  · rw [hc, cartWrite_switchableBank_ram _ m v hlo, hen, hpol]
    rfl
  · rw [hc, cartWrite_switchableBank_ram _ m v hlo, hen, hpol, ← hc]
    rfl

/-! ## What a store leaves alone -/

theorem mem_storedCells_self (a : Addr) : a ∈ storedCells a := by
  unfold storedCells
  split <;> simp

theorem not_inControlRange_of_route {a : Addr} (h : route a ≠ .cart) : inControlRange a = false := by
  rw [Ne, route_cart_iff] at h
  exact decide_eq_false (by omega)

/-- The flat array with a store to `a` reads as before at every address that is not a stored cell. -/
theorem routerWrite_flat_read {a b : Addr} {v : Byte} {s t : State} (h : routerWrite a v s = .ok t)
    (hb : b ∉ storedCells a) : t.flat.read b.toNat = s.flat.read b.toNat := by
  have ne : ∀ {c : Addr}, b ≠ c → b.toNat ≠ c.toNat := fun hne e => hne (BitVec.eq_of_toNat_eq e)
  rcases routerWrite_cases h with ⟨-, c, -, rfl⟩ | ⟨hr, rfl⟩ | ⟨hr, rfl⟩ | ⟨hr, rfl⟩
  · rfl
  · simp only [storedCells, hr, List.mem_cons, List.not_mem_nil, or_false, not_or] at hb
    exact (Memory.read_write_other _ v (ne hb.2)).trans (Memory.read_write_other _ v (ne hb.1))
  · simp only [storedCells, hr, List.mem_cons, List.not_mem_nil, or_false, not_or] at hb
    exact (Memory.read_write_other _ v (ne hb.2)).trans (Memory.read_write_other _ v (ne hb.1))
  · simp only [storedCells, hr, List.mem_cons, List.not_mem_nil, or_false] at hb
    exact Memory.read_write_other _ v (ne hb)

/-- One byte of cartridge RAM backs one address of the window, in whichever bank is selected. -/
theorem ramIndex_ne {m : SwitchableBank} {a b : Addr} (ha : 0xA000 ≤ a.toNat) (hb : 0xA000 ≤ b.toNat) (hne : b ≠ a) :
    m.ramIndex b ≠ m.ramIndex a := by
  intro e
  unfold SwitchableBank.ramIndex at e
  exact hne (BitVec.eq_of_toNat_eq (by omega))

/-- The bank controller after a store outside the control range reads as before at every other address. -/
theorem routerWrite_cart_read {a b : Addr} {v : Byte} {s t : State} (h : routerWrite a v s = .ok t)
    (ha : inControlRange a = false) (hb : route b = .cart) (hne : b ≠ a) : cartRead t.cart b = cartRead s.cart b := by
  rcases routerWrite_of_data ha h with hc | ⟨hlo, -, m, hm, rfl⟩
  · rw [hc]
  · simp only [hm, cartRead, SwitchableBank.romIndex]
    split_ifs with h1 h2
    · rfl
    · rfl
    · have hlo' : 0xA000 ≤ b.toNat := by
        rw [route_cart_iff] at hb
        omega
      exact congrArg _ (Memory.read_write_other _ v (ramIndex_ne hlo hlo' hne))

/-- A store outside the control range leaves every byte alone but its own and its mirror (R63–R65, R103). -/
theorem routerRead_routerWrite_other {a b : Addr} {v : Byte} {s t : State} (h : routerWrite a v s = .ok t)
    (ha : inControlRange a = false) (hb : b ∉ storedCells a) : routerRead b t = routerRead b s := by
  by_cases hr : route b = .cart
  · have hne : b ≠ a := fun e => hb (e ▸ mem_storedCells_self b)
    rw [routerRead_of_cart t hr, routerRead_of_cart s hr, routerWrite_cart_read h ha hr hne]
  · rw [routerRead_of_flat t hr, routerRead_of_flat s hr, routerWrite_flat_read h hb]

/-- A store outside the control range changes at most the cartridge RAM bytes of the bank controller. -/
theorem routerWrite_data_withRam {a : Addr} {v : Byte} {s t : State} (h : routerWrite a v s = .ok t)
    (ha : inControlRange a = false) : t.cart = s.cart.withRam t.cart.ram := by
  rcases routerWrite_of_data ha h with hc | ⟨-, -, m, hm, rfl⟩
  · rw [hc, withRam_ram]
  · rw [hm]
    rfl

/-- Settles O18: the frame of the bytes, and the one field that a store changes in each region. -/
theorem aStoreLeavesOtherBytesAlone : Obligations.AStoreLeavesOtherBytesAlone := by
  intro a b v s t h ha
  refine ⟨routerRead_routerWrite_other h ha, fun hflat => ?_, fun hflat => ?_⟩
  · have hr := (isFlatAddr_iff_route a).1 hflat
    rcases routerWrite_cases h with ⟨hc, -⟩ | ⟨-, rfl⟩ | ⟨-, rfl⟩ | ⟨-, rfl⟩
    · exact absurd hc hr
    all_goals rfl
  · have hr : route a = .cart := by
      by_contra hr
      rw [(isFlatAddr_iff_route a).2 hr] at hflat
      cases hflat
    have hcart := routerWrite_data_withRam h ha
    rcases routerWrite_cases h with ⟨-, c, -, rfl⟩ | ⟨hc, -⟩ | ⟨hc, -⟩ | ⟨hc, -⟩
    · rw [← hcart]
    all_goals rw [hr] at hc; cases hc

end Sys2Proof.Machine
end

section
/-! PROOFS. What an instruction can change (10_state.md R30, R32, R33; 20_memory.md R103), over all formats: each rule is a
property that the parts of an instruction keep. -/

namespace Sys2Proof.Machine

/-- What the parts of an instruction's format keep holds of the state that the instruction answers. -/
theorem exec_keeps {i : Instr} {s t : State} {P : State → Prop} {Q : Fault → Prop} (c : KeptBy i.form s P Q) (h : P s)
    (ht : exec i s = .next t) : P t := by
  obtain ⟨u, hu, hP⟩ := execForm_keeps c h
  rw [exec_eq_execForm, hu] at ht
  cases ht
  exact hP

/-- A property that says nothing of faults: what it must survive, faults included. -/
theorem KeptBy.of_anyFault {f : Form} {s₀ : State} {P : State → Prop} (hooks : ∀ n s, P s → P (addHooks n s))
    (write : ∀ a v s t, a ∈ storeTargets f s₀ → P s → routerWrite a v s = .ok t → P t)
    (regs : ∀ g s, RegsAllowed f g s.regs → P s → P (s.setRegs g)) (fault : ∀ e s, P s → P (takeFault e s))
    (halt : f = .halt → ∀ s, P s → P { s with status := .halted }) : KeptBy f s₀ P fun _ => True where
  hooks := hooks
  write := write
  readError _ _ _ _ _ := trivial
  writeError _ _ _ _ _ _ := trivial
  regs := regs
  fault e s h _ := fault e s h
  halt := halt

/-! ## Registers -/

/-- An instruction changes F, SP and PC as its format allows. -/
theorem exec_regsAllowed {i : Instr} {s t : State} (ht : exec i s = .next t) : RegsAllowed i.form t.regs s.regs := by
  refine exec_keeps (P := fun u => RegsAllowed i.form u.regs s.regs) (.of_anyFault (fun _ _ h => h) ?_
    (fun _ _ hg h => hg.trans h) (fun _ _ h => h) fun _ _ h => h) (.of_same rfl rfl rfl) ht
  intro _ _ _ _ _ h hw
  rw [(routerWrite_frame hw).1]
  exact h

/-- Settles O52: the flag clauses of `exec_regsAllowed`. -/
theorem onlyFlagWritersChangeF : Obligations.OnlyFlagWritersChangeF := fun _ _ _ ht =>
  ⟨(exec_regsAllowed ht).flags, (exec_regsAllowed ht).carry⟩

/-- Settles O53: the SP and PC clauses of `exec_regsAllowed`. -/
theorem onlyTheListedInstructionsMoveSpAndPc : Obligations.OnlyTheListedInstructionsMoveSpAndPc := fun _ _ _ ht =>
  ⟨(exec_regsAllowed ht).sp, (exec_regsAllowed ht).pc⟩

/-! ## Memory -/

/-- A property of memory, kept by every store to the addresses an instruction stores to, is kept by the instruction. -/
theorem exec_keeps_memory {i : Instr} {s t : State} {P : State → Prop}
    (congr : ∀ u u' : State, u'.flat = u.flat → u'.cart = u.cart → P u → P u')
    (write : ∀ a v u u', a ∈ storeTargets i.form s → P u → routerWrite a v u = .ok u' → P u')
    (h : P s) (ht : exec i s = .next t) : P t :=
  exec_keeps (.of_anyFault (fun _ u h => congr u _ rfl rfl h) write (fun _ u _ h => congr u _ rfl rfl h)
    (fun _ u h => congr u _ rfl rfl h) fun _ u h => congr u _ rfl rfl h) h ht

/-- Settles O54: no store can be to an address of an empty list. -/
theorem instructionsThatStoreNothingKeepMemory : Obligations.InstructionsThatStoreNothingKeepMemory := by
  intro i s t ht hnone
  have ⟨hflat, hcart⟩ : t.flat = s.flat ∧ t.cart = s.cart :=
    exec_keeps_memory (P := fun u => u.flat = s.flat ∧ u.cart = s.cart)
      (fun _ _ hf hc h => ⟨hf.trans h.1, hc.trans h.2⟩) (fun a _ _ _ ha => by rw [hnone] at ha; cases ha) ⟨rfl, rfl⟩ ht
  exact ⟨hflat, hcart, fun a => routerRead_congr a hflat hcart⟩

/-! ### The addresses of one instruction's stores -/

/-- An instruction stores nothing, one byte, or the two bytes of a push (R70). -/
theorem storeTargets_cases (f : Form) (s : State) :
    storeTargets f s = [] ∨ (∃ a, storeTargets f s = [a]) ∨ ∃ a, storeTargets f s = [a, a + 1] := by
  unfold storeTargets
  split <;> simp

/-- No instruction stores both to the control range and to the cartridge RAM window. -/
theorem not_ram_of_control {f : Form} {s : State} {a c : Addr} (hc : c ∈ storeTargets f s)
    (hctl : inControlRange c = true) (ha : a ∈ storeTargets f s) : ¬ (0xA000 ≤ a.toNat ∧ a.toNat ≤ 0xBFFF) := by
  have hctl : c.toNat < 0x8000 := of_decide_eq_true hctl
  have hadj : a = c ∨ a = c + 1 ∨ c = a + 1 := by
    rcases storeTargets_cases f s with h | ⟨x, h⟩ | ⟨x, h⟩ <;>
      simp only [h, List.mem_cons, List.not_mem_nil, or_false] at ha hc
    · exact .inl (ha.trans hc.symm)
    · rcases ha with rfl | rfl <;> rcases hc with rfl | rfl <;> simp
  rcases hadj with rfl | rfl | rfl <;> bv_omega

/-! ### What one store keeps -/

/-- A store to a control address leaves the flat array, the image and the cartridge RAM alone. -/
theorem routerWrite_control_keeps {a : Addr} {v : Byte} {s t : State} (ha : inControlRange a = true)
    (h : routerWrite a v s = .ok t) : t.flat = s.flat ∧ t.cart.rom = s.cart.rom ∧ t.cart.ram = s.cart.ram := by
  obtain ⟨m, hm, rfl⟩ := routerWrite_of_control ha h
  obtain ⟨hrom, hram⟩ := writeControl_keeps a v m
  rw [hm]
  exact ⟨rfl, hrom, hram⟩

/-- A store outside the cartridge RAM window leaves the image and the cartridge RAM alone. -/
theorem routerWrite_keeps_ram {a : Addr} {v : Byte} {s t : State} (ha : ¬ (0xA000 ≤ a.toNat ∧ a.toNat ≤ 0xBFFF))
    (h : routerWrite a v s = .ok t) : t.cart.rom = s.cart.rom ∧ t.cart.ram = s.cart.ram := by
  cases hctl : inControlRange a with
  | true => exact (routerWrite_control_keeps hctl h).2
  | false =>
    rcases routerWrite_of_data hctl h with hc | ⟨hlo, hhi, -⟩
    · rw [hc]
      exact ⟨rfl, rfl⟩
    · exact absurd ⟨hlo, hhi⟩ ha

/-- A store outside the control range changes at most the one cartridge RAM byte of its address. -/
theorem routerWrite_ram_read {a : Addr} {v : Byte} {s t : State} {m : SwitchableBank} {ram : Memory} {k : Nat}
    (h : routerWrite a v s = .ok t) (ha : inControlRange a = false)
    (hc : s.cart = .switchableBank { m with ram := ram })
    (hk : 0xA000 ≤ a.toNat → a.toNat ≤ 0xBFFF → k ≠ m.ramIndex a) : t.cart.ram.read k = ram.read k := by
  rcases routerWrite_of_data ha h with h | ⟨hlo, hhi, m', hm, rfl⟩
  · rw [h, hc]
    rfl
  · cases hc.symm.trans hm
    exact Memory.read_write_other _ v (hk hlo hhi)

/-! ### What an instruction's stores keep -/

section Stores

variable {i : Instr} {s t : State} (ht : exec i s = .next t)
include ht

/-- An instruction that stores to no control address changes no bank register. -/
theorem exec_cart_withRam (hdata : ∀ a ∈ storeTargets i.form s, inControlRange a = false) :
    t.cart = s.cart.withRam t.cart.ram := by
  refine exec_keeps_memory (P := fun u => u.cart = s.cart.withRam u.cart.ram) (fun _ _ _ hc h => by rw [hc]; exact h)
    (fun a v u u' ha h hw => ?_) (withRam_ram _).symm ht
  have hu := routerWrite_data_withRam hw (hdata a ha)
  rw [h, withRam_withRam] at hu
  exact hu

/-- A byte reads as before where each store of an instruction leaves it alone. -/
theorem exec_routerRead_other {b : Addr} (hb : ∀ a ∈ storeTargets i.form s,
      (inControlRange a = false ∧ b ∉ storedCells a) ∨ (inControlRange a = true ∧ isFlatAddr b.toNat = true)) :
    routerRead b t = routerRead b s := by
  refine exec_keeps_memory (P := fun u => routerRead b u = routerRead b s)
    (fun _ _ hf hc h => (routerRead_congr b hf hc).trans h) (fun a v u u' ha h hw => ?_) rfl ht
  rcases hb a ha with ⟨hdata, hcell⟩ | ⟨hctl, hflat⟩
  · exact (routerRead_routerWrite_other hw hdata hcell).trans h
  · have hr := (isFlatAddr_iff_route b).1 hflat
    rw [← h, routerRead_of_flat u' hr, routerRead_of_flat u hr, (routerWrite_control_keeps hctl hw).1]

/-- An instruction that stores to control addresses only changes no flat cell. -/
theorem exec_flat_of_control (hctl : ∀ a ∈ storeTargets i.form s, inControlRange a = true) : t.flat = s.flat :=
  exec_keeps_memory (P := fun u => u.flat = s.flat) (fun _ _ hf _ h => hf.trans h)
    (fun a _ _ _ ha h hw => (routerWrite_control_keeps (hctl a ha) hw).1.trans h) rfl ht

/-- An instruction that stores outside the cartridge RAM window changes no byte of the image and of cartridge RAM. -/
theorem exec_keeps_ram (hram : ∀ a ∈ storeTargets i.form s, ¬ (0xA000 ≤ a.toNat ∧ a.toNat ≤ 0xBFFF)) :
    t.cart.rom = s.cart.rom ∧ t.cart.ram = s.cart.ram := by
  refine exec_keeps_memory (P := fun u => u.cart.rom = s.cart.rom ∧ u.cart.ram = s.cart.ram)
    (fun _ _ _ hc h => by rw [hc]; exact h) (fun a v u u' ha h hw => ?_) ⟨rfl, rfl⟩ ht
  obtain ⟨hrom, hram⟩ := routerWrite_keeps_ram (hram a ha) hw
  exact ⟨hrom.trans h.1, hram.trans h.2⟩

/-- A cartridge RAM byte keeps its value where no store is to its address in the selected bank. -/
theorem exec_ram_read {m : SwitchableBank} {k : Nat} (hm : s.cart = .switchableBank m)
    (hk : ∀ a ∈ storeTargets i.form s, 0xA000 ≤ a.toNat → a.toNat ≤ 0xBFFF → k ≠ m.ramIndex a) :
    t.cart.ram.read k = m.ram.read k := by
  by_cases hctl : ∃ c ∈ storeTargets i.form s, inControlRange c = true
  · obtain ⟨c, hc, hctl⟩ := hctl
    rw [(exec_keeps_ram ht fun a ha => not_ram_of_control hc hctl ha).2, hm]
    rfl
  · have hdata : ∀ a ∈ storeTargets i.form s, inControlRange a = false := by simpa using hctl
    refine (exec_keeps_memory
      (P := fun u => u.cart = .switchableBank { m with ram := u.cart.ram } ∧ u.cart.ram.read k = m.ram.read k)
      (fun _ _ _ hc h => by rw [hc]; exact h) (fun a v u u' ha h hw => ⟨?_, ?_⟩) ⟨by rw [hm]; rfl, by rw [hm]; rfl⟩ ht).2
    · have hu := routerWrite_data_withRam hw (hdata a ha)
      rw [h.1] at hu
      exact hu
    · exact (routerWrite_ram_read hw (hdata a ha) h.1 (hk a ha)).trans h.2

/-- An instruction whose stores are to one control address, and else to flat ones, leaves the bank registers as a store of
one byte to that address does. -/
theorem exec_cart_of_control {c : Addr} (hctl : inControlRange c = true)
    (hflat : ∀ a ∈ storeTargets i.form s, a ≠ c → isFlatAddr a.toNat = true) :
    t.cart = s.cart ∨ ∃ v u, routerWrite c v s = .ok u ∧ t.cart = u.cart := by
  refine exec_keeps_memory (P := fun u => u.cart = s.cart ∨ ∃ v w, routerWrite c v s = .ok w ∧ u.cart = w.cart)
    (fun _ _ _ hc h => by rw [hc]; exact h) (fun a v u u' ha h hw => ?_) (.inl rfl) ht
  by_cases hac : a = c
  · subst hac
    obtain ⟨m, hm, rfl⟩ := routerWrite_of_control hctl hw
    rcases h with h | ⟨v₀, w, hw₀, h⟩
    · exact .inr ⟨v, _, routerWrite_control_ok v hctl (h.symm.trans hm), rfl⟩
    · obtain ⟨m₀, hm₀, rfl⟩ := routerWrite_of_control hctl hw₀
      cases hm.symm.trans h
      refine .inr ⟨v, _, routerWrite_control_ok v hctl hm₀, ?_⟩
      exact congrArg Cart.switchableBank (writeControl_writeControl a v₀ v m₀)
  · rw [routerWrite_flat_cart (hflat a ha hac) hw]
    exact h

end Stores

/-- Settles O55: one clause for each of the lemmas above. -/
theorem instructionsChangeOnlyTheBytesTheyStore : Obligations.InstructionsChangeOnlyTheBytesTheyStore := by
  intro i s t ht
  refine ⟨fun hdata => ⟨exec_cart_withRam ht hdata, fun b hb => ?_⟩, fun m k hm hk => exec_ram_read ht hm hk,
    fun b hflat hb => ?_, fun c hc hctl => ?_, exec_flat_of_control ht⟩
  · exact exec_routerRead_other ht fun a ha => .inl ⟨hdata a ha, hb a ha⟩
  · refine exec_routerRead_other ht fun a ha => ?_
    cases hctl : inControlRange a with
    | true => exact .inr ⟨rfl, hflat⟩
    | false => exact .inl ⟨rfl, hb a ha hctl⟩
  · obtain ⟨hrom, hram⟩ := exec_keeps_ram ht fun a ha => not_ram_of_control hc hctl ha
    exact ⟨hrom, hram, exec_cart_of_control ht hctl⟩

end Sys2Proof.Machine
end

section
/-! PROOFS. Legal states (10_state.md R29, R35–R39; 20_memory.md R95–R97): the Console after construction, and what every
step keeps. -/

namespace Sys2Proof.Machine

/-! ## What every step keeps -/

/-- A step answers a next state, and keeps what the parts of every format keep. -/
theorem step_answers_keeping {P : State → Prop} {Q : Fault → Prop} (c : ∀ f s₀, KeptBy f s₀ P Q)
    (unknown : ∀ bytes, Q (.unknownOpcode bytes)) {s : State} (h : P s) : ∃ t, step s = .next t ∧ P t := by
  have hpc : ∀ v u, P u → P (u.setPc v) := fun v u hu => setPc_keeps (c (.jr 0) u) v hu rfl (by simp)
  have instr : ∀ i u, P u → ∃ t, exec i u = .next t ∧ P t := fun i u hu => by
    rw [exec_eq_execForm]
    exact execForm_keeps (c i.form u) hu
  exact step_keeps (c .nop s).hooks hpc (c .nop s).readError unknown (c .nop s).fault instr h

theorem step_of_keptBy {P : State → Prop} {Q : Fault → Prop} (c : ∀ f s₀, KeptBy f s₀ P Q)
    (unknown : ∀ bytes, Q (.unknownOpcode bytes)) {s t : State} (h : P s) (ht : step s = .next t) : P t := by
  obtain ⟨u, hu, hP⟩ := step_answers_keeping c unknown h
  rw [ht] at hu
  cases hu
  exact hP

/-- A controller after a store keeps its image and its variant. -/
theorem cartWrite_rom_isSwitchable {policy : RamDisabledWrite} {c c' : Cart} {a : Addr} {v : Byte}
    (h : cartWrite policy c a v = .ok c') : c'.rom = c.rom ∧ c'.isSwitchable = c.isSwitchable := by
  unfold cartWrite at h
  split at h
  · split_ifs at h
  · split_ifs at h
    · cases h
      exact ⟨(writeControl_keeps a v _).1, rfl⟩
    · cases h
      exact ⟨rfl, rfl⟩
    · split at h <;> cases h
      exact ⟨rfl, rfl⟩

/-- Settles O57: a store writes neither image nor variant, and nothing writes the parameters. -/
theorem stepKeepsTheImageControllerKindAndParameters : Obligations.StepKeepsTheImageControllerKindAndParameters := by
  intro s t ht
  refine step_of_keptBy
    (P := fun u => u.cart.rom = s.cart.rom ∧ u.cart.isSwitchable = s.cart.isSwitchable ∧ u.params = s.params)
    (fun f s₀ => .of_anyFault (fun _ _ h => h) ?_ (fun _ _ _ h => h) (fun _ _ h => h) fun _ _ h => h)
    (fun _ => trivial) ⟨rfl, rfl, rfl⟩ ht
  intro a v u u' _ h hw
  rcases routerWrite_cases hw with ⟨-, c, hc, rfl⟩ | ⟨-, rfl⟩ | ⟨-, rfl⟩ | ⟨-, rfl⟩
  · obtain ⟨hrom, hkind⟩ := cartWrite_rom_isSwitchable hc
    obtain ⟨hrom', hkind', hparams⟩ := h
    exact ⟨hrom.trans hrom', hkind.trans hkind', hparams⟩
  all_goals exact h

/-! ## The invariant -/

/-- The flat array's part of the invariant. -/
def flatLegal (m : Memory) : Bool := m.wf && Memory.keysAll isFlatAddr m

theorem flatLegal_write {m : Memory} (h : flatLegal m = true) {a : Nat} (v : Byte) (ha : isFlatAddr a = true) :
    flatLegal (m.write a v) = true := by
  rw [flatLegal, Bool.and_eq_true] at h ⊢
  exact ⟨Memory.wf_write h.1 a v, Memory.keysAll_write h.2 v ha⟩

/-- The ROM bank's low five bits are never 0 (R39, R86). -/
theorem writeControl_romBank {m : SwitchableBank} (h : m.romBank.extractLsb' 0 5 ≠ 0) (a : Addr) (v : Byte) :
    (m.writeControl a v).romBank.extractLsb' 0 5 ≠ 0 := by
  unfold SwitchableBank.writeControl
  split_ifs
  · exact h
  · simp only [SwitchableBank.writeRomBankLow, append_low5]
    split_ifs with h0
    · decide
    · exact h0
  · unfold SwitchableBank.writeBankHigh
    split
    · exact h
    · simpa using h
  · exact h

theorem Cart.legal_switchableBank (m : SwitchableBank) :
    (Cart.switchableBank m).legal = true ↔
      (m.rom.wf = true ∧ 0x147 < m.rom.size) ∧
        (m.ram.wf = true ∧ Memory.keysAll (fun k => decide (k < 0x8000)) m.ram = true) ∧
        m.romBank.extractLsb' 0 5 ≠ 0 := by
  simp [Cart.legal, and_assoc]

/-- A store in the cartridge's ranges keeps the controller legal. -/
theorem cartWrite_legal {policy : RamDisabledWrite} {c c' : Cart} {a : Addr} {v : Byte} (hr : route a = .cart)
    (hl : c.legal = true) (h : cartWrite policy c a v = .ok c') : c'.legal = true := by
  unfold cartWrite at h
  split at h
  · split_ifs at h
  · rename_i m
    obtain ⟨hrom, ⟨hwf, hkeys⟩, hbank⟩ := (Cart.legal_switchableBank m).1 hl
    split_ifs at h
    · cases h
      obtain ⟨erom, eram⟩ := writeControl_keeps a v m
      rw [Cart.legal_switchableBank, erom, eram]
      exact ⟨hrom, ⟨hwf, hkeys⟩, writeControl_romBank hbank a v⟩
    · cases h
      have hi : m.ramIndex a < 0x8000 := ramIndex_lt m (by rw [route_cart_iff] at hr; omega)
      exact (Cart.legal_switchableBank _).2
        ⟨hrom, ⟨Memory.wf_write hwf _ v, Memory.keysAll_write hkeys v (decide_eq_true hi)⟩, hbank⟩
    · split at h <;> cases h
      exact hl

/-- A store keeps the invariant. -/
theorem routerWrite_inv {a : Addr} {v : Byte} {s t : State} (hs : s.Inv) (h : routerWrite a v s = .ok t) : t.Inv := by
  have hflat : flatLegal s.flat = true := hs.flat
  have key : ∀ {x : Addr}, route x ≠ .cart → isFlatAddr x.toNat = true := fun {x} => (isFlatAddr_iff_route x).2
  rcases routerWrite_cases h with ⟨hr, c, hc, rfl⟩ | ⟨hr, rfl⟩ | ⟨hr, rfl⟩ | ⟨hr, rfl⟩
  · exact ⟨hs.lowNibble, hs.flat, cartWrite_legal hr hs.cart hc, hs.status⟩
  · have hmirror : isFlatAddr (a - 0x2000).toNat = true := by
      rw [route_echo_iff] at hr
      exact key (route_ne_cart_of_high (by bv_omega))
    exact ⟨hs.lowNibble, flatLegal_write (flatLegal_write hflat v (key (by simp [hr]))) v hmirror, hs.cart, hs.status⟩
  · have hmirror : isFlatAddr (a + 0x2000).toNat = true := by
      rw [route_wram_iff] at hr
      exact key (route_ne_cart_of_high (by bv_omega))
    exact ⟨hs.lowNibble, flatLegal_write (flatLegal_write hflat v (key (by simp [hr]))) v hmirror, hs.cart, hs.status⟩
  · exact ⟨hs.lowNibble, flatLegal_write hflat v (key (by simp [hr])), hs.cart, hs.status⟩

/-- Every part of an instruction keeps the invariant, and raises only the faults of a step. -/
theorem inv_keptBy (f : Form) (s₀ : State) : KeptBy f s₀ State.Inv (fun e => e.ofAStep = true) where
  hooks _ _ h := ⟨h.lowNibble, h.flat, h.cart, h.status⟩
  write _ _ _ _ _ h hw := routerWrite_inv h hw
  readError _ _ _ _ he := routerRead_error_ofAStep he
  writeError _ _ _ _ _ he := routerWrite_error_ofAStep he
  regs _ _ hg h := ⟨hg.lowNibble h.lowNibble, h.flat, h.cart, h.status⟩
  fault _ _ h hq := ⟨h.lowNibble, h.flat, h.cart, hq⟩
  halt _ _ h := ⟨h.lowNibble, h.flat, h.cart, rfl⟩

/-- Settles O56: `inv_keptBy` for every format, and the fault of an unknown opcode. -/
theorem stepKeepsTheInvariant : Obligations.StepKeepsTheInvariant := fun _ _ hs ht =>
  step_of_keptBy inv_keptBy (fun _ => rfl) hs ht

/-! ## Construction -/

/-- A fresh Console is legal where its controller is. -/
theorem fresh_inv {c : Cart} (p : Params) (h : c.legal = true) : (State.fresh c p).Inv :=
  ⟨show (0 : Byte) &&& 0x0F = 0 by decide, rfl, h, rfl⟩

theorem byte?_of_ge {img : Image} {i : Nat} (h : img.size ≤ i) : img.byte? i = none := if_neg (by omega)

theorem lt_size_of_byte? {img : Image} {i : Nat} {v : Byte} (h : img.byte? i = some v) : i < img.size := by
  by_contra hge
  rw [byte?_of_ge (by omega)] at h
  cases h

theorem firstBytes_wf {img : Image} (n : Nat) (h : img.wf = true) : (img.firstBytes n).wf = true := by
  rw [Image.wf, Bool.and_eq_true] at h ⊢
  refine ⟨Memory.wfFrom_filter _ h.1, ?_⟩
  have hkeys := h.2
  simp only [Memory.keysAll, List.all_eq_true, decide_eq_true_eq] at hkeys ⊢
  intro c hc
  simp only [Image.firstBytes, List.mem_filter, decide_eq_true_eq] at hc ⊢
  exact lt_min (hkeys c hc.1) hc.2

theorem resetNoController_legal {img : Image} (h : img.wf = true) (hsize : 0x147 < img.size) :
    (Cart.resetNoController img).legal = true := by
  simp only [Cart.resetNoController, Cart.legal, Bool.and_eq_true, decide_eq_true_eq]
  refine ⟨⟨firstBytes_wf _ h, ?_⟩, ?_⟩
  · exact lt_min hsize (by decide)
  · exact min_le_right _ _

theorem resetSwitchableBank_legal {img : Image} (h : img.wf = true) (hsize : 0x147 < img.size) :
    (Cart.resetSwitchableBank img).legal = true :=
  (Cart.legal_switchableBank _).2 ⟨⟨h, hsize⟩, ⟨rfl, rfl⟩, show (1 : BitVec 7).extractLsb' 0 5 ≠ 0 by decide⟩

/-- Everything construction can answer with a Console (R95). -/
theorem construct_cases {p : Params} {img : Image} {s : State} (h : construct p img = .next s) :
    0x147 < img.size ∧
      (s = State.fresh (Cart.resetNoController img) p ∨ s = State.fresh (Cart.resetSwitchableBank img) p) := by
  unfold construct at h
  split at h
  · cases h
  · rename_i t ht
    refine ⟨lt_size_of_byte? ht, ?_⟩
    split_ifs at h
    · cases h; exact .inl rfl
    · cases h; exact .inr rfl

/-- Settles O5: both controllers of `construct_cases` are legal. -/
theorem constructedConsolesMeetTheInvariant : Obligations.ConstructedConsolesMeetTheInvariant := by
  intro p img s hwf h
  obtain ⟨hsize, rfl | rfl⟩ := construct_cases h
  · exact fresh_inv p (resetNoController_legal hwf hsize)
  · exact fresh_inv p (resetSwitchableBank_legal hwf hsize)

/-- Settles O3: the three cases of construction by the image's type byte. -/
theorem constructionSelectsTheController : Obligations.ConstructionSelectsTheController := by
  intro p img
  refine ⟨fun h => ?_, fun h => ?_, fun h => ?_⟩ <;> unfold construct
  · rw [byte?_of_ge h]
  · rw [h]
    rfl
  · rw [h]
    rfl

/-- Settles O1: the fields of the reset state, and a flat array that lists no cell. -/
theorem resetStateHoldsTheSpecValues : Obligations.ResetStateHoldsTheSpecValues :=
  ⟨rfl, rfl, rfl, fun a ha => routerRead_of_flat _ ((isFlatAddr_iff_route a).1 ha)⟩

/-- Settles O2: the reset image is well-formed and long enough. -/
theorem resetStateMeetsTheInvariant : Obligations.ResetStateMeetsTheInvariant :=
  fresh_inv _ (resetNoController_legal rfl (by decide))

end Sys2Proof.Machine
end

section
/-! PROOFS. The hook counter (10_state.md R45; 93_implementation_defined.md U16): every operation commutes with counting more
hooks, so a step does. -/

namespace Sys2Proof.Machine

/-! ## Operations that do not look at the counter -/

/-- The result with `n` more hooks counted in its state. -/
def Result.addHooks {α : Type} (n : Nat) (r : Result α) : Result α :=
  match r with
  | .ok v s => .ok v (Machine.addHooks n s)
  | .fault f s => .fault f (Machine.addHooks n s)

/-- An operation that answers the same, whatever the counter holds, and counts on from it. -/
def IgnoresHooks {α : Type} (op : State → Result α) : Prop := ∀ n s, op (addHooks n s) = (op s).addHooks n

/-- A meaning that answers the same next state, whatever the counter holds, and counts on from it. -/
def StepsIgnoringHooks (meaning : State → Host.Outcome State Fault Refusal) : Prop :=
  ∀ n s, ∃ t, meaning s = .next t ∧ meaning (addHooks n s) = .next (addHooks n t)

theorem tick_addHooks (n : Nat) (s : State) : tick (addHooks n s) = addHooks n (tick s) := by
  simp [tick_eq_addHooks, Nat.add_comm]

theorem IgnoresHooks.bind {α β : Type} {op : State → Result α} {k : α → State → Result β} (h : IgnoresHooks op)
    (hk : ∀ v, IgnoresHooks (k v)) : IgnoresHooks fun s => (op s).bind k := by
  intro n s
  dsimp only
  rw [h n s]
  cases op s with
  | ok v t => exact hk v n t
  | fault f t => rfl

/-- What an operation takes from the registers beforehand does not come from the counter. -/
theorem IgnoresHooks.of_regs {α : Type} {op : Regs → State → Result α} (h : ∀ g, IgnoresHooks (op g)) :
    IgnoresHooks fun s => op s.regs s := fun n s => h s.regs n s

theorem IgnoresHooks.outcome {op : State → Result Unit} (h : IgnoresHooks op) :
    StepsIgnoringHooks fun s => (op s).outcome := by
  intro n s
  dsimp only
  rw [h n s]
  cases op s with
  | ok v t => exact ⟨t, rfl, rfl⟩
  | fault f t => exact ⟨takeFault f t, rfl, rfl⟩

/-! ## Accesses, operands, fetching and the stack -/

theorem readByte_ignoresHooks (a : Addr) : IgnoresHooks (readByte a) := by
  intro n s
  unfold readByte
  rw [routerRead_addHooks, tick_addHooks]
  cases routerRead a s <;> rfl

theorem writeByte_ignoresHooks (a : Addr) (v : Byte) : IgnoresHooks (writeByte a v) := by
  intro n s
  unfold writeByte
  rw [tick_addHooks, routerWrite_addHooks]
  cases routerWrite a v (tick s) <;> rfl

theorem readOperand_ignoresHooks (r : Rank) : IgnoresHooks (readOperand r) := by
  cases r
  case hlInd => exact .of_regs (op := fun g => readByte g.hl) fun g => readByte_ignoresHooks g.hl
  all_goals exact fun _ _ => rfl

theorem writeOperand_ignoresHooks (r : Rank) (v : Byte) : IgnoresHooks (writeOperand r v) := by
  cases r
  case hlInd => exact .of_regs (op := fun g => writeByte g.hl v) fun g => writeByte_ignoresHooks g.hl v
  all_goals exact fun _ _ => rfl

theorem readWord_ignoresHooks (a : Addr) : IgnoresHooks (readWord a) :=
  (readByte_ignoresHooks a).bind fun _ => (readByte_ignoresHooks (a + 1)).bind fun _ _ _ => rfl

theorem writeWord_ignoresHooks (a v : Addr) : IgnoresHooks (writeWord a v) :=
  (writeByte_ignoresHooks a _).bind fun _ => writeByte_ignoresHooks (a + 1) _

theorem push_ignoresHooks (v : Addr) : IgnoresHooks (push v) := by
  have hrest : ∀ g : Regs, IgnoresHooks fun s => (writeWord g.sp v s).bind fun _ s => .ok () (tick s) := fun g =>
    (writeWord_ignoresHooks g.sp v).bind fun _ n s => congrArg (Result.ok ()) (tick_addHooks n s)
  exact fun n s => hrest (s.setSp (s.regs.sp - 2)).regs n (s.setSp (s.regs.sp - 2))

theorem pop_ignoresHooks : IgnoresHooks pop :=
  .of_regs (op := fun g s => (readWord g.sp s).bind fun v s => .ok v (s.setSp (s.regs.sp + 2))) fun g =>
    (readWord_ignoresHooks g.sp).bind fun _ _ _ => rfl

theorem jump_addHooks (t : Addr) (n : Nat) (s : State) : jump t (addHooks n s) = addHooks n (jump t s) :=
  tick_addHooks n (s.setPc t)

theorem fetch8_ignoresHooks : IgnoresHooks fetch8 :=
  .of_regs (op := fun g s => (readByte g.pc s).bind fun v s => .ok v (s.setPc (s.regs.pc + 1))) fun g =>
    (readByte_ignoresHooks g.pc).bind fun _ _ _ => rfl

theorem fetchMore_ignoresHooks : ∀ (fuel : Nat) (got : List Byte), IgnoresHooks (fetchMore fuel got)
  | 0, _ => fun _ _ => rfl
  | fuel + 1, got => by
    refine fetch8_ignoresHooks.bind fun v n s => ?_
    dsimp only [addHooks_params]
    split
    · rfl
    · rfl
    · exact fetchMore_ignoresHooks fuel _ n s

/-! ## Instructions and steps -/

theorem execForm_ignoresHooks (f : Form) : StepsIgnoringHooks (execForm f) := by
  cases f with
  | nop => exact fun _ s => ⟨s, rfl, rfl⟩
  | halt => exact fun _ s => ⟨_, rfl, rfl⟩
  | ld dst src =>
    exact ((readOperand_ignoresHooks src).bind fun v => writeOperand_ignoresHooks dst v).outcome
  | ldImm dst d8 => exact (writeOperand_ignoresHooks dst d8).outcome
  | storeInd m =>
    refine (IgnoresHooks.of_regs (op := fun g s => (writeByte (indirectAddr m g) g.a s).bind fun _ s =>
      .ok () (s.setRegs (indirectAfter m (indirectAddr m g) s.regs))) fun g => ?_).outcome
    exact (writeByte_ignoresHooks _ g.a).bind fun _ _ _ => rfl
  | loadInd m =>
    refine (IgnoresHooks.of_regs (op := fun g s => (readByte (indirectAddr m g) s).bind fun v s =>
      .ok () (s.setRegs (indirectAfter m (indirectAddr m g) { s.regs with a := v }))) fun g => ?_).outcome
    exact (readByte_ignoresHooks _).bind fun _ _ _ => rfl
  | storeHigh a8 =>
    exact (IgnoresHooks.of_regs (op := fun g => writeByte (highAddr a8) g.a) fun g => writeByte_ignoresHooks _ g.a).outcome
  | storeHighC =>
    exact (IgnoresHooks.of_regs (op := fun g => writeByte (highAddr g.c) g.a) fun g => writeByte_ignoresHooks _ g.a).outcome
  | loadHigh a8 => exact ((readByte_ignoresHooks _).bind fun _ _ _ => rfl).outcome
  | loadHighC =>
    refine (IgnoresHooks.of_regs (op := fun g s => (readByte (highAddr g.c) s).bind fun v s =>
      .ok () (s.setRegs { s.regs with a := v })) fun g => ?_).outcome
    exact (readByte_ignoresHooks _).bind fun _ _ _ => rfl
  | alu op src => exact ((readOperand_ignoresHooks src).bind fun _ _ _ => rfl).outcome
  | ldPair dst d16 => exact fun _ s => ⟨_, rfl, rfl⟩
  | push q => exact (IgnoresHooks.of_regs (op := fun g => push (g.pair q)) fun g => push_ignoresHooks _).outcome
  | pop q => exact (pop_ignoresHooks.bind fun _ _ _ => rfl).outcome
  | jr e8 => exact fun n s => ⟨_, rfl, congrArg _ (jump_addHooks _ n s)⟩
  | jrCond cc e8 =>
    intro n s
    by_cases h : condHolds cc s.regs.flags = true
    · exact ⟨_, if_pos h, (if_pos h).trans (congrArg _ (jump_addHooks _ n s))⟩
    · exact ⟨_, if_neg h, if_neg h⟩
  | call a16 =>
    refine (IgnoresHooks.of_regs (op := fun g s => (push g.pc s).bind fun _ s => .ok () (s.setPc a16)) fun g => ?_).outcome
    exact (push_ignoresHooks g.pc).bind fun _ _ _ => rfl
  | ret => exact (pop_ignoresHooks.bind fun t n s => congrArg _ (jump_addHooks t n s)).outcome
  | bit k r => exact ((readOperand_ignoresHooks r).bind fun _ _ _ => rfl).outcome
  | res k r => exact ((readOperand_ignoresHooks r).bind fun v => writeOperand_ignoresHooks r _).outcome
  | set k r => exact ((readOperand_ignoresHooks r).bind fun v => writeOperand_ignoresHooks r _).outcome

theorem step_ignoresHooks : StepsIgnoringHooks step := by
  intro n s
  unfold step
  rw [addHooks_status]
  split
  · unfold fetchInstr
    rw [fetchMore_ignoresHooks 3 [] n s]
    cases fetchMore 3 [] s with
    | ok i u =>
      simp only [runFetched, Result.addHooks, exec_eq_execForm]
      exact execForm_ignoresHooks i.form n u
    | fault f u => exact ⟨_, rfl, rfl⟩
  · exact ⟨s, rfl, rfl⟩
  · exact ⟨s, rfl, rfl⟩

/-- Of two states that differ in the counter only, one is the other with more hooks counted. -/
theorem eq_addHooks_of_le {s s' : State} (h : { s with ticks := s'.ticks } = s') (hle : s.ticks ≤ s'.ticks) :
    s' = addHooks (s'.ticks - s.ticks) s := by
  rw [addHooks, Nat.add_sub_cancel' hle, h]

/-- Settles O58: the state that counted more steps to the other's next state with as many more counted. -/
theorem theHookCounterIsNotArchitectural : Obligations.TheHookCounterIsNotArchitectural := by
  intro s s' t t' h ht ht'
  rcases le_total s.ticks s'.ticks with hle | hle
  · obtain ⟨u, hu, hu'⟩ := step_ignoresHooks (s'.ticks - s.ticks) s
    rw [← eq_addHooks_of_le h hle, ht'] at hu'
    cases ht.symm.trans hu
    cases hu'
    rfl
  · have h' : { s' with ticks := s.ticks } = s := by rw [← h]
    obtain ⟨u, hu, hu'⟩ := step_ignoresHooks (s.ticks - s'.ticks) s'
    rw [← eq_addHooks_of_le h' hle, ht] at hu'
    cases ht'.symm.trans hu
    cases hu'
    rfl

end Sys2Proof.Machine
end

section
/-! PROOFS. The step (43_control.md R230; 60_exceptions.md section 6): how the bytes at PC are fetched, the faults of fetching
and decoding, and the statuses that a step leaves and keeps. -/

namespace Sys2Proof.Machine

/-! ## The state past fetched bytes -/

/-- The state after `n` fetched bytes: a hook and a step of PC for each (R33, R68). -/
def pastBytes (n : Nat) (s : State) : State := (addHooks n s).setPc (s.regs.pc + BitVec.ofNat 16 n)

theorem pastBytes_zero (s : State) : pastBytes 0 s = s := by
  unfold pastBytes
  rw [BitVec.add_zero]
  rfl

theorem pastBytes_pastBytes (m n : Nat) (s : State) : pastBytes n (pastBytes m s) = pastBytes (m + n) s := by
  have hpc : s.regs.pc + BitVec.ofNat 16 m + BitVec.ofNat 16 n = s.regs.pc + BitVec.ofNat 16 (m + n) := by
    rw [BitVec.add_assoc, BitVec.ofNat_add]
  show ((addHooks n (addHooks m s)).setPc (s.regs.pc + BitVec.ofNat 16 m + BitVec.ofNat 16 n)) = _
  rw [hpc, addHooks_addHooks]
  rfl

/-- Fetching changes no byte. -/
theorem bytesAt_pastBytes_iff (n : Nat) {s : State} {bytes : List Byte} {a : Addr} :
    bytesAt a bytes (pastBytes n s) ↔ bytesAt a bytes s := by
  induction bytes generalizing a with
  | nil => exact Iff.rfl
  | cons v rest ih => exact and_congr Iff.rfl ih

theorem bytesAt_concat {s : State} {v : Byte} : ∀ {bytes : List Byte} {a : Addr}, bytesAt a (bytes ++ [v]) s →
    bytesAt a bytes s ∧ routerRead (a + BitVec.ofNat 16 bytes.length) s = .ok v
  | [], a, ⟨h, _⟩ => ⟨trivial, by simpa using h⟩
  | _ :: rest, a, ⟨h, hrest⟩ => by
    obtain ⟨hr, hv⟩ := bytesAt_concat hrest
    refine ⟨⟨h, hr⟩, ?_⟩
    rw [List.length_cons, Nat.add_comm, BitVec.ofNat_add, ← BitVec.add_assoc]
    exact hv

/-! ## Fetching -/

/-- While the bytes ask for more, each is fetched and nothing else happens. -/
theorem fetchMore_bytesAt (n : Nat) : ∀ (more : List Byte) {got : List Byte} {s : State},
    decode s.params (got ++ more) = .error .truncated → bytesAt s.regs.pc more s →
    fetchMore (n + more.length) got s = fetchMore n (got ++ more) (pastBytes more.length s)
  | [], got, s, _, _ => by simp [pastBytes_zero]
  | v :: more, got, s, hd, ⟨hv, hmore⟩ => by
    have hd : decode s.params (got ++ [v] ++ more) = .error .truncated := by simpa using hd
    have hfirst : fetchMore (n + more.length + 1) got s = fetchMore (n + more.length) (got ++ [v]) (pastBytes 1 s) :=
      fetchMore_truncated _ hv (decode_truncated_of_append hd)
    have hrest := fetchMore_bytesAt n more (s := pastBytes 1 s) hd ((bytesAt_pastBytes_iff 1).2 hmore)
    rw [List.length_cons, ← Nat.add_assoc, hfirst, hrest, pastBytes_pastBytes, List.append_assoc, Nat.add_comm 1]
    rfl

/-- A step fetches the bytes at PC while they ask for more, and fetches on from there. -/
theorem step_of_bytesAt {s : State} {got : List Byte} (hs : s.status = .running)
    (hd : decode s.params got = .error .truncated) (hb : bytesAt s.regs.pc got s) :
    ∃ n, step s = runFetched (fetchMore (n + 1) got (pastBytes got.length s)) := by
  obtain ⟨n, hn⟩ : ∃ n, 3 = n + 1 + got.length := ⟨2 - got.length, by have := decode_length_of_truncated hd; omega⟩
  refine ⟨n, ?_⟩
  rw [step_of_running hs, hn, fetchMore_bytesAt (n + 1) got (got := []) hd hb, List.nil_append]

/-- The state in which a later byte is fetched reads it where PC stood, past the bytes before it. -/
theorem routerRead_pastBytes (n : Nat) (s : State) :
    routerRead (pastBytes n s).regs.pc (pastBytes n s) = routerRead (s.regs.pc + BitVec.ofNat 16 n) s := rfl

/-- A byte that cannot be read ends the step. -/
theorem step_of_fetch_error {s : State} {got : List Byte} {f : Fault} (hs : s.status = .running)
    (hd : decode s.params got = .error .truncated) (hb : bytesAt s.regs.pc got s)
    (hf : routerRead (s.regs.pc + BitVec.ofNat 16 got.length) s = .error f) :
    step s = .next (takeFault f (addHooks 1 (pastBytes got.length s))) := by
  obtain ⟨n, hn⟩ := step_of_bytesAt hs hd hb
  rw [hn, fetchMore_of_error n got (by rw [routerRead_pastBytes, hf])]
  rfl

/-- Bytes that decode are fetched, then their instruction is executed. -/
theorem step_of_decoded {s : State} {bytes : List Byte} {i : Instr} (hs : s.status = .running)
    (hd : decode s.params bytes = .ok (i, [])) (hb : bytesAt s.regs.pc bytes s) :
    step s = exec i (pastBytes bytes.length s) := by
  rcases List.eq_nil_or_concat' bytes with rfl | ⟨got, v, rfl⟩
  · cases hd
  · obtain ⟨hgot, hv⟩ := bytesAt_concat hb
    obtain ⟨n, hn⟩ := step_of_bytesAt hs (decode_truncated_of_whole hd) hgot
    rw [hn, fetchMore_decoded n ((routerRead_pastBytes _ s).trans hv) hd, List.length_append]
    exact congrArg (exec i) (pastBytes_pastBytes got.length 1 s)

/-- Bytes that are no instruction are fetched, then the fault is taken. -/
theorem step_of_unknown {s : State} {got op : List Byte} {v : Byte} (hs : s.status = .running)
    (hgot : decode s.params got = .error .truncated) (hd : decode s.params (got ++ [v]) = .error (.unknownOpcode op))
    (hb : bytesAt s.regs.pc (got ++ [v]) s) :
    step s = .next (takeFault (.unknownOpcode op) (pastBytes (got.length + 1) s)) := by
  obtain ⟨hbytes, hv⟩ := bytesAt_concat hb
  obtain ⟨n, hn⟩ := step_of_bytesAt hs hgot hbytes
  rw [hn, fetchMore_unknown n ((routerRead_pastBytes _ s).trans hv) hd, ← pastBytes_pastBytes got.length 1]
  rfl

/-- Settles O10: the fault of `step_of_fetch_error`, its hook counted with the others. -/
theorem operandFetchFaultLeavesPcPastTheFetchedBytes : Obligations.OperandFetchFaultLeavesPcPastTheFetchedBytes := by
  intro s got f hs hd hb hf
  rw [step_of_fetch_error hs hd hb hf, ← addHooks_addHooks 1 got.length s]
  rfl

/-! ## Statuses other than Running -/

theorem step_of_not_running {s : State} (h : s.status ≠ .running) : step s = .next s := by
  unfold step
  split
  · exact absurd ‹_› h
  · rfl
  · rfl

/-- Settles O9: the three ways a step begins. -/
theorem stepFetchesDecodesAndExecutes : Obligations.StepFetchesDecodesAndExecutes := by
  refine fun s => ⟨step_of_not_running, fun hs f hf => ?_, fun hs bytes i hd hb => step_of_decoded hs hd hb⟩
  have hpc : routerRead (s.regs.pc + BitVec.ofNat 16 0) s = .error f := by simpa using hf
  rw [step_of_fetch_error (got := []) hs rfl trivial hpc]
  exact congrArg (fun u => Host.Outcome.next (takeFault f (addHooks 1 u))) (pastBytes_zero s)

theorem run_succ_of_next {M : Host.Core} {s t : M.State} (n : Nat) (h : M.step s = .next t) :
    M.run (n + 1) s = M.run n t := by
  rw [Host.Core.run, h]

/-- Settles O13: induction on the number of steps, each of which changes nothing. -/
theorem haltedOrFaultedConsolesNeverChange : Obligations.HaltedOrFaultedConsolesNeverChange := by
  intro n s hs
  induction n with
  | zero => rfl
  | succ n ih => exact (run_succ_of_next (M := core) n (step_of_not_running hs)).trans ih

/-- Settles O14: HALT's bytes, meaning and status. -/
theorem haltStopsTheConsole : Obligations.HaltStopsTheConsole :=
  ⟨rfl, fun p rest ha => decodeOfEncodeGivesTheInstruction p .halt rest ha, Instr.form_ne_ld_hlInd_hlInd, fun _ => rfl,
    fun _ hs => step_of_not_running (by simp [hs])⟩

/-! ## Opcodes that are no instruction -/

set_option maxRecDepth 4000 in
/-- The primary table of R134 holds every opcode that the decoder knows. -/
theorem decodePrimary_of_not_mem (op : Byte) : op.toNat ∉ primaryTable → op ≠ 0xCB →
    decodePrimary op [] = .error (.unknownOpcode [op]) := by
  revert op; decide

/-- An opcode outside the table, or taken out of it, is unknown by itself. -/
theorem decode_of_illegal {p : Params} {op : Byte} (hop : op ≠ 0xCB)
    (h : op.toNat ∉ primaryTable ∨ p.removedPrimary.contains op = true) :
    decode p [op] = .error (.unknownOpcode [op]) := by
  rw [decode_eq_error_iff]
  by_cases ha : p.admits op = true
  · rw [decodeForm_admitted [] hop ha]
    refine decodePrimary_of_not_mem op (h.resolve_right fun hr => ?_) hop
    rw [Params.admits, beq_eq_false_iff_ne.2 hop, hr] at ha
    cases ha
  · exact (if_neg hop).trans (if_neg ha)

set_option maxRecDepth 4000 in
theorem illegal_primary_count :
    ((List.range 256).filter fun n => n != 0xCB && !primaryTable.contains n).length = 87 := by decide

/-- Settles O11: such an opcode is unknown when it is fetched, and the table's complement is counted. -/
theorem illegalPrimaryOpcodesFault : Obligations.IllegalPrimaryOpcodesFault := by
  refine ⟨fun s op hs hr hop hill => ?_, illegal_primary_count⟩
  exact step_of_unknown (got := []) hs rfl (decode_of_illegal hop hill) ⟨hr, trivial⟩

/-- The extended table holds nothing below 0x40 (R136). -/
theorem decode_of_illegal_extended (p : Params) {op2 : Byte} (h : op2.toNat < 0x40) :
    decode p [0xCB, op2] = .error (.unknownOpcode [0xCB, op2]) := by
  have hq : op2.extractLsb' 6 2 = 0#2 := by
    refine eq_ofNat_of_toNat (n := 0) ?_
    simp only [BitVec.extractLsb'_toNat, Nat.shiftRight_eq_div_pow]
    omega
  rw [decode_eq_error_iff]
  show decodeExtended [op2] = _
  simp [decodeExtended, hq]

/-- Settles O12: 0xCB asks for its second byte, and the pair is unknown. -/
theorem illegalExtendedOpcodesFault : Obligations.IllegalExtendedOpcodesFault := fun _ _ hs hb h =>
  step_of_unknown (got := [0xCB]) hs rfl (decode_of_illegal_extended _ h) hb

/-! ## Halting -/

/-- The instruction that a fetch answers was decoded from the bytes at PC. -/
theorem fetchMore_ok {n : Nat} {got : List Byte} {s t : State} {i : Instr} (h : fetchMore n got s = .ok i t) :
    ∃ more rest, decode s.params (got ++ more) = .ok (i, rest) ∧ bytesAt s.regs.pc more s := by
  induction n generalizing got s with
  | zero => cases h
  | succ n ih =>
    cases hr : routerRead s.regs.pc s with
    | error f =>
      rw [fetchMore_of_error n got hr] at h
      cases h
    | ok v =>
      match hd : decode s.params (got ++ [v]) with
      | .ok (j, rest) =>
        rw [fetchMore_decoded n hr hd] at h
        obtain ⟨rfl, -⟩ := Result.ok.inj h
        exact ⟨[v], rest, hd, hr, trivial⟩
      | .error (.unknownOpcode bytes) =>
        rw [fetchMore_unknown n hr hd] at h
        cases h
      | .error .truncated =>
        rw [fetchMore_truncated n hr hd] at h
        obtain ⟨more, rest, hd', hb⟩ := ih h
        exact ⟨v :: more, rest, by simpa using hd', hr, (bytesAt_pastBytes_iff 1).1 hb⟩

/-- Only HALT makes a Console halted. -/
theorem exec_not_halted {i : Instr} {s t : State} (hi : i.form ≠ .halt) (hs : s.status ≠ .halted)
    (ht : exec i s = .next t) : t.status ≠ .halted := by
  refine exec_keeps (P := fun u => u.status ≠ .halted) (.of_anyFault (fun _ _ h => h) ?_ (fun _ _ _ h => h)
    (fun _ _ _ => by simp) fun h => absurd h hi) hs ht
  intro _ _ _ _ _ h hw
  obtain ⟨-, hstatus, -, -⟩ := routerWrite_frame hw
  rw [hstatus]
  exact h

theorem fetchMore_not_halted (n : Nat) (got : List Byte) {s : State} (hs : s.status ≠ .halted) :
    (fetchMore n got s).Ends (fun u => u.status ≠ .halted) fun _ => True :=
  fetchMore_ends (fun _ _ h => h) (fun _ _ h => h) (fun _ _ _ _ _ => trivial) (fun _ => trivial) n got s hs

/-- The byte at PC of a Console that a step halts is HALT's. -/
theorem routerRead_of_step_halted {s t : State} (hs : s.status = .running) (ht : step s = .next t)
    (hhalt : t.status = .halted) : routerRead s.regs.pc s = .ok 0x76 := by
  have hkeep := fetchMore_not_halted 3 [] (s := s) (by simp [hs])
  rw [step_of_running hs] at ht
  cases hf : fetchMore 3 [] s with
  | fault f u =>
    rw [hf] at ht
    cases ht
    cases hhalt
  | ok i u =>
    rw [hf] at ht hkeep
    by_cases hi : i.form = .halt
    · obtain ⟨bytes, rest, hd, hb⟩ := fetchMore_ok hf
      obtain ⟨rfl, -⟩ := encodeOfDecodeGivesTheBytes _ bytes rest i hd
      rw [show encode i = [0x76] by rw [encode, hi]; rfl] at hb
      exact hb.1
    · exact absurd hhalt (exec_not_halted hi hkeep ht)

/-- Every step answers a next state. -/
theorem step_answers (s : State) : ∃ t, step s = .next t := by
  obtain ⟨t, ht, -⟩ := step_answers_keeping (P := fun _ => True) (s := s) (fun _ _ => .of_anyFault (fun _ _ h => h)
    (fun _ _ _ _ _ h _ => h) (fun _ _ _ h => h) (fun _ _ h => h) fun _ _ h => h) (fun _ => trivial) trivial
  exact ⟨t, ht⟩

/-- Settles O15: `step_answers`, and the byte that a halting step read. -/
theorem everyStepAnswersAndOnlyHaltHalts : Obligations.EveryStepAnswersAndOnlyHaltHalts := by
  intro s
  obtain ⟨t, ht⟩ := step_answers s
  exact ⟨t, ht, fun hs hhalt => routerRead_of_step_halted hs ht hhalt⟩

end Sys2Proof.Machine
end

section
/-! PROOFS. The 8-bit loads and stores (40_loads_8bit.md), each from its format's shared operation and the rule of the access
it makes. -/

namespace Sys2Proof.Machine

/-! ## The operand at (HL) -/

/-- Only (HL) is read through the router, so only it can fault, at its address (R25, R26). -/
theorem operandValue_error {r : Rank} {s : State} {f : Fault} (h : operandValue r s = .error f) :
    ∃ index, f = .imageBounds s.regs.hl index := by
  cases r
  case hlInd => exact routerRead_error h
  all_goals cases h

/-- An instruction that reads its operand first does nothing else where the read faults (R269). -/
theorem operand_fault {r : Rank} {s : State} {f : Fault} (k : Byte → State → Result Unit)
    (h : operandValue r s = .error f) :
    ((readOperand r s).bind k).outcome = .next (takeFault f (addHooks 1 s)) ∧
      ∃ index, f = .imageBounds s.regs.hl index := by
  rw [readOperand_of_error h]
  exact ⟨rfl, operandValue_error h⟩

/-- No row reads and writes (HL) as a load: its code is HALT's (R123). -/
theorem ld_operands_ne {i : Instr} {dst src : Rank} (h : i.form = .ld dst src) : (dst, src) ≠ (.hlInd, .hlInd) := by
  rintro ⟨⟩
  exact i.form_ne_ld_hlInd_hlInd h

/-- The operand of a load into (HL) is a register, which is read without a hook. -/
theorem operandHooks_of_ne {r : Rank} (h : r ≠ .hlInd) : operandHooks r = 0 := by
  cases r
  case hlInd => exact absurd rfl h
  all_goals rfl

/-! ## Rank and immediate loads -/

/-- A load of a rank whose operand is read goes on with its write. -/
theorem exec_ld {i : Instr} {dst src : Rank} {s : State} {v : Byte} (hi : i.form = .ld dst src)
    (hv : operandValue src s = .ok v) :
    exec i s = (writeOperand dst v (addHooks (operandHooks src) s)).outcome := by
  rw [exec_of_form hi]
  show ((readOperand src s).bind _).outcome = _
  rw [readOperand_of_ok hv]
  rfl

/-- Settles O26: the operand's value, then the register or the router's write; else the operand's fault. -/
theorem loadRankMovesOneByte : Obligations.LoadRankMovesOneByte := by
  intro i dst src s hi
  have hne := ld_operands_ne hi
  refine ⟨by rw [encode, hi]; rfl, hne, fun v hv hdst => ?_, fun v t hv hdst hw => ?_, fun v f hv hdst hw => ?_,
    fun f hf => ?_⟩
  · rw [exec_ld hi hv, writeOperand_register v _ hdst]
    rfl
  · subst hdst
    have hsrc : src ≠ .hlInd := fun e => hne (by rw [e])
    rw [exec_ld hi hv, operandHooks_of_ne hsrc, writeOperand_hlInd, addHooks_zero, writeByte_of_ok hw]
    rfl
  · subst hdst
    have hsrc : src ≠ .hlInd := fun e => hne (by rw [e])
    rw [exec_ld hi hv, operandHooks_of_ne hsrc, writeOperand_hlInd, addHooks_zero, writeByte_of_error hw]
    exact ⟨rfl, routerWrite_error hw⟩
  · rw [exec_of_form hi]
    exact operand_fault _ hf

/-- Settles O27: the register's write, and the two answers of the router's write at HL. -/
theorem loadImmediateWritesTheByte : Obligations.LoadImmediateWritesTheByte := by
  intro i dst d8 s hi
  have hexec : exec i s = (writeOperand dst d8 s).outcome := exec_of_form hi s
  rw [hexec]
  refine ⟨fun hdst => ?_, fun t hdst hw => ?_, fun f hdst hw => ?_⟩
  · rw [writeOperand_register d8 s hdst]
    rfl
  · rw [hdst, writeOperand_hlInd, writeByte_of_ok hw]
    rfl
  · rw [hdst, writeOperand_hlInd, writeByte_of_error hw]
    rfl

/-! ## Loads and stores through a pair -/

/-- Settles O28: the store's two answers; the registers of the state stored to are those before. -/
theorem storesOfAThroughAPair : Obligations.StoresOfAThroughAPair := by
  intro i m s addr hi haddr
  have haddr : addr = indirectAddr m s.regs := haddr.trans (by cases m <;> rfl)
  subst haddr
  rw [exec_of_form hi]
  show (∀ t, _ → ((writeByte (indirectAddr m s.regs) s.regs.a s).bind _).outcome = _) ∧
    ∀ f, _ → ((writeByte (indirectAddr m s.regs) s.regs.a s).bind _).outcome = _
  refine ⟨fun t hw => ?_, fun f hw => ?_⟩
  · rw [writeByte_of_ok hw, bind_ok, addHooks_regs, (routerWrite_frame hw).1]
    cases m <;> rfl
  · rw [writeByte_of_error hw]
    rfl

/-- Settles O29: the read's two answers. -/
theorem loadsOfAThroughAPair : Obligations.LoadsOfAThroughAPair := by
  intro i m s addr hi haddr
  have haddr : addr = indirectAddr m s.regs := haddr.trans (by cases m <;> rfl)
  subst haddr
  rw [exec_of_form hi]
  show (∀ v, _ → ((readByte (indirectAddr m s.regs) s).bind _).outcome = _) ∧
    ∀ f, _ → ((readByte (indirectAddr m s.regs) s).bind _).outcome = _
  refine ⟨fun v hr => ?_, fun f hr => ?_⟩
  · rw [readByte_of_ok hr]
    cases m <;> rfl
  · rw [readByte_of_error hr]
    rfl

/-! ## The high-RAM page -/

/-- A high-RAM page address by number (R133). -/
theorem highAddr_toNat (offset : Byte) : (highAddr offset).toNat = 0xFF00 + offset.toNat := by
  have h : (offset.setWidth 16).toNat = offset.toNat := BitVec.toNat_setWidth_of_le (by decide)
  rw [highAddr, BitVec.toNat_or, h]
  exact (Nat.two_pow_add_eq_or_of_lt (i := 8) offset.isLt 0xFF).symm

theorem route_highAddr (offset : Byte) : route (highAddr offset) = .flat := by
  rw [route_flat_iff, highAddr_toNat]
  omega

theorem storeHighAt_eq (offset : Byte) (s : State) :
    storeHighAt offset s = .next (addHooks 1 { s with flat := s.flat.write (0xFF00 + offset.toNat) s.regs.a }) := by
  unfold storeHighAt
  rw [writeByte_of_ok (routerWrite_of_flat _ s (route_highAddr offset)), highAddr_toNat]
  rfl

theorem loadHighAt_eq (offset : Byte) (s : State) :
    loadHighAt offset s =
      .next (addHooks 1 { s with regs := { s.regs with a := s.flat.read (0xFF00 + offset.toNat) } }) := by
  unfold loadHighAt
  rw [readByte_of_ok (routerRead_of_flat s (by simp [route_highAddr])), highAddr_toNat]
  rfl

/-- Settles O30: both offsets go through the same store and the same load of the high-RAM page. -/
theorem highPageLoadsAndStores : Obligations.HighPageLoadsAndStores := by
  intro i offset s
  refine ⟨?_, ?_⟩
  · rintro (hi | ⟨hi, rfl⟩) <;> rw [exec_of_form hi] <;> exact storeHighAt_eq _ s
  · rintro (hi | ⟨hi, rfl⟩) <;> rw [exec_of_form hi] <;> exact loadHighAt_eq _ s

end Sys2Proof.Machine
end

section
/-! PROOFS. The ALU block (41_alu.md): ADC and SBC in both carry modes, where the modes differ, and the selection of the
operation and the operand by the opcode. -/

namespace Sys2Proof.Machine

/-! ## The carry in -/

theorem flags_c (g : Regs) : g.flags.c = g.f.getLsbD 4 := rfl

/-- The incremented operand by number: modulo 256 (R172, R174). -/
theorem carryOperand_toNat (b : Byte) (cin : Bool) : (carryOperand b cin).toNat = (b.toNat + cin.toNat) % 256 := by
  cases cin
  · exact (Nat.mod_eq_of_lt b.isLt).symm
  · exact BitVec.toNat_add b 1

/-- The second operand of ADC and SBC and its half, by the mode: both results are the sum or difference with them (R172,
R174; D8). -/
structure CarryTaken (mode : CarryInMode) (b : Byte) (cin : Bool) (y ly : Nat) : Prop where
  adc : ∀ a, aluAdc mode a b cin = sumResult (a.toNat + y) (lowNibble a + ly)
  sbc : ∀ a, aluSbc mode a b cin = differenceResult ((a.toNat : Int) - y) ((lowNibble a : Int) - ly)

theorem carryTaken_operandIncrement8 (b : Byte) (cin : Bool) :
    CarryTaken .operandIncrement8 b cin ((b.toNat + cin.toNat) % 256) ((b.toNat + cin.toNat) % 256 % 16) where
  adc a := by rw [aluAdc, aluAdd, lowNibble, lowNibble, carryOperand_toNat]
  sbc a := by rw [aluSbc, aluSub, lowNibble, lowNibble, carryOperand_toNat]

theorem carryTaken_sm83ThreeOperand (b : Byte) (cin : Bool) :
    CarryTaken .sm83ThreeOperand b cin (b.toNat + cin.toNat) (b.toNat % 16 + cin.toNat) where
  adc a := by rw [aluAdc, Nat.add_assoc, Nat.add_assoc]; rfl
  sbc a := by
    rw [aluSbc, Int.sub_sub, Int.sub_sub]
    rfl

theorem differenceResult_toByte_nat (x y lx ly : Nat) :
    (differenceResult ((x : Int) - y) ((lx : Int) - ly)).flags.toByte =
      (if ((x : Int) - y) % 256 = 0 then 0x80 else 0) ||| 0x40 ||| (if lx < ly then 0x20 else 0)
        ||| (if x < y then 0x10 else 0) := by
  rw [differenceResult_toByte]
  simp only [sub_neg, Nat.cast_lt]

/-- Settles O34: in each mode the primitive is a sum or difference with the operand that the mode takes. -/
theorem adcAndSbcTakeTheCarryByTheMode : Obligations.AdcAndSbcTakeTheCarryByTheMode := by
  intro i src s b cin x y lx ly hb hcin hx hlx hmode
  have taken : CarryTaken s.params.carryInMode b s.regs.flags.c y ly := by
    rcases hmode with ⟨hm, rfl, rfl⟩ | ⟨hm, rfl, rfl⟩ <;> rw [hm, hcin, flags_c]
    · exact carryTaken_operandIncrement8 b _
    · exact carryTaken_sm83ThreeOperand b _
  subst hx hlx
  refine ⟨fun hi => ?_, fun hi => ?_⟩
  · refine exec_alu_writes hi hb (by decide) ?_ ?_
    · exact congrArg AluResult.r (taken.adc s.regs.a)
    · exact (congrArg (fun u : AluResult => u.flags.toByte) (taken.adc s.regs.a)).trans (sumResult_toByte _ _)
  · refine exec_alu_writes hi hb (by decide) ?_ ?_
    · exact congrArg AluResult.r (taken.sbc s.regs.a)
    · exact (congrArg (fun u : AluResult => u.flags.toByte) (taken.sbc s.regs.a)).trans
        (differenceResult_toByte_nat _ _ _ _)

/-! ## Where the modes differ -/

theorem sumResult_congr {n n' : Nat} (half half' : Nat) (h : n % 256 = n' % 256) :
    (sumResult n half).r = (sumResult n' half').r ∧ (sumResult n half).flags.z = (sumResult n' half').flags.z := by
  have hr : BitVec.ofNat 8 n = BitVec.ofNat 8 n' := BitVec.eq_of_toNat_eq (by simpa using h)
  exact ⟨hr, congrArg (· == 0) hr⟩

theorem differenceResult_congr {d d' : Int} (half half' : Int) (h : d % 256 = d' % 256) :
    (differenceResult d half).r = (differenceResult d' half').r ∧
      (differenceResult d half).flags.z = (differenceResult d' half').flags.z := by
  have hr : BitVec.ofInt 8 d = BitVec.ofInt 8 d' := by rw [← ofInt8_emod d, h, ofInt8_emod]
  exact ⟨hr, congrArg (· == 0) hr⟩

/-- Both modes take an operand that is the same modulo 256, so the results and their Z agree. -/
theorem carryModes_agree (a b : Byte) (cin : Bool) :
    ((aluAdc .operandIncrement8 a b cin).r = (aluAdc .sm83ThreeOperand a b cin).r ∧
      (aluAdc .operandIncrement8 a b cin).flags.z = (aluAdc .sm83ThreeOperand a b cin).flags.z) ∧
    (aluSbc .operandIncrement8 a b cin).r = (aluSbc .sm83ThreeOperand a b cin).r ∧
      (aluSbc .operandIncrement8 a b cin).flags.z = (aluSbc .sm83ThreeOperand a b cin).flags.z := by
  have inc := carryTaken_operandIncrement8 b cin
  have three := carryTaken_sm83ThreeOperand b cin
  rw [inc.adc, three.adc, inc.sbc, three.sbc]
  exact ⟨sumResult_congr _ _ (by omega), differenceResult_congr _ _ (by omega)⟩

/-- Settles O37: H differs only where the operand's low nibble wraps in the increment, C only where its byte wraps. -/
theorem carryModesAgreeButInTheListedCases : Obligations.CarryModesAgreeButInTheListedCases := by
  rintro a b cin u w u' w' rfl rfl rfl rfl
  obtain ⟨⟨hr, hz⟩, hr', hz'⟩ := carryModes_agree a b cin
  refine ⟨hr, hz, rfl, hr', hz', rfl, ?_⟩
  have inc := carryTaken_operandIncrement8 b cin
  have three := carryTaken_sm83ThreeOperand b cin
  rw [inc.adc, three.adc, inc.sbc, three.sbc]
  have ha := a.isLt
  have hb := b.isLt
  have hFF : b = 0xFF ↔ b.toNat = 255 := BitVec.toNat_inj.symm
  have hna : lowNibble a < 16 := Nat.mod_lt _ (by decide)
  refine ⟨fun h => ?_, fun h hn => ?_, fun h hne => ?_, fun h heq => ?_⟩
  · have hc : cin.toNat = 0 ∨ cin.toNat = 1 ∧ b.toNat % 16 ≠ 15 := by
      cases cin
      · exact .inl rfl
      · exact .inr ⟨rfl, fun hn => h ⟨rfl, hn⟩⟩
    have hy : (b.toNat + cin.toNat) % 256 = b.toNat + cin.toNat := by omega
    have hly : (b.toNat + cin.toNat) % 256 % 16 = b.toNat % 16 + cin.toNat := by omega
    rw [hly, hy]
    exact ⟨rfl, rfl⟩
  · subst h
    simp only [Bool.toNat_true]
    exact ⟨decide_eq_false (by omega), decide_eq_true (by omega), decide_eq_false (by omega), decide_eq_true (by omega)⟩
  · have hy : (b.toNat + cin.toNat) % 256 = b.toNat + cin.toNat := by
      have := mt hFF.2 hne
      rw [h, Bool.toNat_true]
      omega
    rw [hy]
    exact ⟨rfl, rfl⟩
  · have hb255 := hFF.1 heq
    subst h
    simp only [Bool.toNat_true]
    exact ⟨decide_eq_false (by omega), decide_eq_true (by omega), decide_eq_false (by omega), decide_eq_true (by omega)⟩

/-! ## Selection by the opcode -/

theorem rankOfCode_eq_getD (z : BitVec 3) :
    Rank.ofCode z = [Rank.b, .c, .d, .e, .h, .l, .hlInd, .a].getD z.toNat .a := by
  revert z; decide

theorem aluOpOfCode_eq_getD (y : BitVec 3) :
    AluOp.ofCode y = [AluOp.add, .adc, .sub, .sbc, .and, .xor, .or, .cp].getD y.toNat .cp := by
  revert y; decide

theorem aluRow_form (op : AluOp) (src : Rank) : (aluRow op src).form = .alu op src := Form.form_row rfl

/-- An opcode of the ALU block is the row of its two fields (R124). -/
theorem decode_alu {p : Params} {y z : BitVec 3} (rest : List Byte) (ha : p.admits (0b10#2 ++ y ++ z) = true) :
    decode p ((0b10#2 ++ y ++ z) :: rest) = .ok (aluRow (AluOp.ofCode y) (Rank.ofCode z), rest) := by
  have henc : encode (aluRow (AluOp.ofCode y) (Rank.ofCode z)) = [0b10#2 ++ y ++ z] := by
    rw [encode, aluRow_form, Form.encode, AluOp.code_ofCode, Rank.code_ofCode]
  have h := decodeOfEncodeGivesTheInstruction p (aluRow (AluOp.ofCode y) (Rank.ofCode z)) rest
  rw [Instr.wf, Instr.opcode, henc] at h
  exact h ha

theorem Regs.setAluResult_eq (op : AluOp) (x : AluResult) (g : Regs) :
    g.setAluResult op x = { g with a := if op = .cp then g.a else x.r, f := x.flags.toByte } := by
  by_cases h : op = .cp
  · subst h
    show g.setF x.flags.toByte = _
    rw [Regs.setF, Flags.toByte_and_F0]
    rfl
  · rw [Regs.setAluResult_of_ne_cp h, if_neg h]

/-- Settles O36: the row of the opcode's fields, with its read fault and its writes. -/
theorem aluBlockSelectsReadsThenWrites : Obligations.AluBlockSelectsReadsThenWrites := by
  intro p y z rest ha
  refine ⟨aluRow (AluOp.ofCode y) (Rank.ofCode z), decode_alu rest ha, ?_⟩
  rintro s op src rfl rfl
  rw [← aluOpOfCode_eq_getD, ← rankOfCode_eq_getD]
  refine ⟨fun f hf => ?_, ?_⟩
  · rw [exec_of_form (aluRow_form _ _)]
    exact operand_fault _ hf
  rintro b x hb rfl
  rw [exec_alu (aluRow_form _ _) hb, Regs.setAluResult_eq]
  rfl

end Sys2Proof.Machine
end

section
/-! PROOFS. The 16-bit loads, the stack and the control transfers (42_loads16_stack.md; 43_control.md): each instruction from
the rules of `push`, `pop` and `jump`, and the return of what was pushed to the flat array. -/

namespace Sys2Proof.Machine

/-! ## Words by number -/

theorem lowByte_eq_ofNat (v : Addr) : lowByte v = BitVec.ofNat 8 (v.toNat % 256) := eq_ofNat_of_toNat (lowByte_toNat v)

theorem highByte_eq_ofNat (v : Addr) : highByte v = BitVec.ofNat 8 (v.toNat / 256) := eq_ofNat_of_toNat (highByte_toNat v)

theorem wordOfBytes_eq_ofNat (hi lo : Byte) : wordOfBytes hi lo = BitVec.ofNat 16 (hi.toNat * 256 + lo.toNat) :=
  eq_ofNat_of_toNat (wordOfBytes_toNat hi lo)

/-- Settles O38: the pair's halves of the immediate are its bytes. -/
theorem loadPairWritesTheImmediate : Obligations.LoadPairWritesTheImmediate := by
  rintro i d16 s hi lo rfl rfl
  rw [← highByte_eq_ofNat, ← lowByte_eq_ofNat]
  refine ⟨fun h => ?_, fun h => ?_, fun h => ?_, fun h => ?_⟩ <;> rw [exec_of_form h] <;> rfl

/-! ## The stack -/

theorem exec_push {i : Instr} {q : Pair} (hi : i.form = .push q) (s : State) :
    exec i s = (push (s.regs.pair q) s).outcome := exec_of_form hi s

theorem exec_call {i : Instr} {a16 : Addr} (hi : i.form = .call a16) (s : State) :
    exec i s = ((push s.regs.pc s).bind fun _ s => .ok () (s.setPc a16)).outcome := exec_of_form hi s

theorem exec_pop {i : Instr} {q : Pair} (hi : i.form = .pop q) (s : State) :
    exec i s = ((pop s).bind fun v s => .ok () (s.setRegs (s.regs.setPair q v))).outcome := exec_of_form hi s

theorem exec_ret {i : Instr} (hi : i.form = .ret) (s : State) :
    exec i s = ((pop s).bind fun t s => .ok () (jump t s)).outcome := exec_of_form hi s

/-- Settles O39: the bytes that a push stores are the pair's registers. -/
theorem pushStoresThePairBelowTheStack : Obligations.PushStoresThePairBelowTheStack := by
  rintro i q s t u sp hi lo hform rfl hbytes h1 h2
  have hpair : s.regs.pair q = wordOfBytes hi lo := by cases q <;> cases hbytes <;> rfl
  rw [exec_push hform, push_of_ok (v := s.regs.pair q) (by rw [hpair, lowByte_wordOfBytes]; exact h1)
    (by rw [hpair, highByte_wordOfBytes]; exact h2)]
  rfl

/-- Settles O40: the word that a pop reads, written to the pair. -/
theorem popLoadsThePairFromTheStack : Obligations.PopLoadsThePairFromTheStack := by
  intro i q s hi lo hform h1 h2
  rw [exec_pop hform, pop_of_ok h1 h2]
  show Host.Outcome.next { addHooks 2 s with
    regs := Regs.setPair q (wordOfBytes hi lo) { s.regs with sp := s.regs.sp + 2 } } = _
  cases q <;> simp [Regs.setPair, Regs.setBc, Regs.setDe, Regs.setHl, Regs.setAf, Regs.setF]

/-- Settles O41: the rules of `push` and `pop` for their first and second access. -/
theorem stackFaultsKeepTheEarlierEffects : Obligations.StackFaultsKeepTheEarlierEffects := by
  intro i s sp v lo hi f
  refine ⟨?_, ?_⟩
  · rintro hform rfl hv
    obtain ⟨rfl, rfl⟩ := eq_bytes_of_toNat hv
    have hfault : ∀ t, push v s = .fault f t → exec i s = .next (takeFault f t) := by
      intro t ht
      rcases hform with ⟨q, hform, rfl⟩ | ⟨a16, hform, rfl⟩
      · rw [exec_push hform, ht, outcome_fault]
      · rw [exec_call hform, ht, bind_fault, outcome_fault]
    exact ⟨fun h1 => hfault _ (push_of_first_error h1), fun t h1 h2 => hfault _ (push_of_second_error h1 h2)⟩
  · intro hform
    have hfault : ∀ t, pop s = .fault f t → exec i s = .next (takeFault f t) := by
      intro t ht
      rcases hform with ⟨q, hform⟩ | hform
      · rw [exec_pop hform, ht, bind_fault, outcome_fault]
      · rw [exec_ret hform, ht, bind_fault, outcome_fault]
    exact ⟨fun h1 => hfault _ (pop_of_first_error h1), fun h1 h2 => hfault _ (pop_of_second_error h1 h2)⟩

/-! ## Control -/

/-- Settles O43: NOP's byte, and its meaning. -/
theorem nopChangesNothing : Obligations.NopChangesNothing := fun _ => ⟨rfl, rfl⟩

/-- A relative target by number: the signed displacement, modulo 65536 (R218; D9, D11). -/
theorem relativeTarget_eq_ofInt (e8 : Byte) (s : State) :
    relativeTarget e8 s = BitVec.ofInt 16 (s.regs.pc.toNat + e8.toInt) := by
  rw [BitVec.ofInt_add, BitVec.ofInt_natCast, BitVec.ofNat_toNat, BitVec.setWidth_eq]
  rfl

/-- A conditional jump, from a flag and the value of it that the condition asks for. -/
theorem jumpRelativeIf_eq {cc : Cond} {e8 : Byte} {s : State} {flag want : Bool}
    (h : condHolds cc s.regs.flags = true ↔ flag = want) :
    jumpRelativeIf cc e8 s = .next (if flag = want then jump (relativeTarget e8 s) s else s) := by
  unfold jumpRelativeIf
  by_cases hf : flag = want
  · rw [if_pos hf, if_pos (h.2 hf)]
  · rw [if_neg hf, if_neg (mt h.1 hf)]

/-- Settles O44: the jump, and each condition's flag. -/
theorem relativeJumpsMovePc : Obligations.RelativeJumpsMovePc := by
  intro i e8 s t ht
  have ht : t = jump (relativeTarget e8 s) s := by rw [ht, ← relativeTarget_eq_ofInt]; rfl
  subst ht
  refine ⟨fun h => ?_, fun h => ?_, fun h => ?_, fun h => ?_, fun h => ?_⟩ <;> rw [exec_of_form h]
  · rfl
  · exact jumpRelativeIf_eq (by simp [condHolds, Regs.flags, Flags.ofByte])
  · exact jumpRelativeIf_eq Iff.rfl
  · exact jumpRelativeIf_eq (by simp [condHolds, Regs.flags, Flags.ofByte])
  · exact jumpRelativeIf_eq Iff.rfl

/-- Settles O45: a push of PC, then the target. -/
theorem callPushesTheReturnAddress : Obligations.CallPushesTheReturnAddress := by
  rintro i a16 sp s t u hform rfl h1 h2
  rw [← lowByte_eq_ofNat] at h1
  rw [← highByte_eq_ofNat] at h2
  rw [exec_call hform, push_of_ok h1 h2]
  rfl

/-- Settles O46: a pop, then a jump to the word popped. -/
theorem returnPopsPc : Obligations.ReturnPopsPc := by
  intro s lo hi h1 h2
  rw [exec_ret rfl, pop_of_ok h1 h2, wordOfBytes_eq_ofNat]
  rfl

/-! ## The stack in the flat array -/

/-- A store to a flat address succeeds. -/
theorem routerWrite_flat_ok {a : Addr} (v : Byte) (s : State) (ha : isFlatAddr a.toNat = true) :
    ∃ t, routerWrite a v s = .ok t := by
  have hr := (isFlatAddr_iff_route a).1 ha
  cases h : route a with
  | cart => exact absurd h hr
  | echo => exact ⟨_, routerWrite_of_echo v s h⟩
  | wram => exact ⟨_, routerWrite_of_wram v s h⟩
  | flat => exact ⟨_, routerWrite_of_flat v s h⟩

/-- A byte stored to a flat address is read back. -/
theorem routerRead_routerWrite_same {a : Addr} {v : Byte} {s t : State} (hs : s.flat.wf = true)
    (ha : isFlatAddr a.toNat = true) (h : routerWrite a v s = .ok t) : routerRead a t = .ok v := by
  have hr := (isFlatAddr_iff_route a).1 ha
  rw [routerRead_of_flat t hr]
  rcases routerWrite_cases h with ⟨hc, -⟩ | ⟨-, rfl⟩ | ⟨-, rfl⟩ | ⟨-, rfl⟩
  · exact absurd hc hr
  · exact congrArg _ (Memory.read_write_pair hs _ _ v).1
  · exact congrArg _ (Memory.read_write_pair hs _ _ v).1
  · exact congrArg _ (Memory.read_write_same hs _ v)

/-- A mirror is 0x2000 away, so no byte is stored with its neighbour. -/
theorem not_mem_storedCells_succ (a : Addr) : a ∉ storedCells (a + 1) := by
  unfold storedCells
  split <;> simp <;> bv_omega

/-- A push to the flat array: SP moves, the two bytes read back, and no other register, no status and no bank register
changes. -/
theorem push_flat (v : Addr) {s : State} (hs : s.Inv) (hlo : isFlatAddr (s.regs.sp - 2).toNat = true)
    (hhi : isFlatAddr (s.regs.sp - 2 + 1).toNat = true) :
    ∃ u, push v s = .ok () u ∧ u.regs = { s.regs with sp := s.regs.sp - 2 } ∧ u.status = s.status ∧ u.cart = s.cart ∧
      routerRead (s.regs.sp - 2) u = .ok (lowByte v) ∧ routerRead (s.regs.sp - 2 + 1) u = .ok (highByte v) := by
  have hs' : (s.setSp (s.regs.sp - 2)).Inv := ⟨hs.lowNibble, hs.flat, hs.cart, hs.status⟩
  obtain ⟨t, ht⟩ := routerWrite_flat_ok (lowByte v) (s.setSp (s.regs.sp - 2)) hlo
  obtain ⟨u, hu⟩ := routerWrite_flat_ok (highByte v) t hhi
  obtain ⟨tregs, tstatus, -, -⟩ := routerWrite_frame ht
  obtain ⟨uregs, ustatus, -, -⟩ := routerWrite_frame hu
  have hcart : u.cart = s.cart :=
    (routerWrite_flat_cart hhi hu).trans (routerWrite_flat_cart (s := s.setSp (s.regs.sp - 2)) hlo ht)
  have hlow : routerRead (s.regs.sp - 2) u = .ok (lowByte v) :=
    (routerRead_routerWrite_other hu (not_inControlRange_of_route ((isFlatAddr_iff_route _).1 hhi))
      (not_mem_storedCells_succ _)).trans (routerRead_routerWrite_same hs'.flat_wf hlo ht)
  have hhigh : routerRead (s.regs.sp - 2 + 1) u = .ok (highByte v) :=
    routerRead_routerWrite_same (routerWrite_inv hs' ht).flat_wf hhi hu
  exact ⟨addHooks 3 u, push_of_ok ht hu, uregs.trans tregs, ustatus.trans tstatus, hcart, hlow, hhigh⟩

theorem sp_below (sp : Addr) : sp - 2 + 1 = sp - 1 ∧ sp - 2 + 2 = sp := by
  constructor <;> bv_omega

/-- A pop of the two bytes of a word, two below. -/
theorem pop_pushed {v sp : Addr} {s : State} (hsp : s.regs.sp = sp - 2) (hlo : routerRead (sp - 2) s = .ok (lowByte v))
    (hhi : routerRead (sp - 2 + 1) s = .ok (highByte v)) : pop s = .ok v ((addHooks 2 s).setSp sp) := by
  rw [← hsp] at hlo hhi
  rw [pop_of_ok hlo hhi, wordOfBytes_high_low, hsp, (sp_below sp).2]

/-- Settles O42: what `push_flat` stores, `pop_pushed` reads. -/
theorem pushThenPopMovesThePair : Obligations.PushThenPopMovesThePair := by
  intro i j q q' s hs hi hj hlo hhi
  rw [← (sp_below _).1] at hhi
  obtain ⟨u, hpush, hregs, hstatus, hcart, h1, h2⟩ := push_flat (s.regs.pair q) hs hlo hhi
  have hpop := pop_pushed (v := s.regs.pair q) (by rw [hregs]) h1 h2
  refine ⟨u, ((addHooks 2 u).setSp s.regs.sp).setRegs _, by rw [exec_push hi, hpush, outcome_ok],
    by rw [exec_pop hj, hpop, bind_ok, outcome_ok], ?_, hstatus, hcart⟩
  show Regs.setPair q' (s.regs.pair q) { u.regs with sp := s.regs.sp } = _
  rw [hregs]

/-- Settles O47: what CALL's push stores, RET's pop reads. -/
theorem callThenReturnResumes : Obligations.CallThenReturnResumes := by
  intro i a16 s hs hi hlo hhi
  rw [← (sp_below _).1] at hhi
  obtain ⟨u, hpush, hregs, hstatus, hcart, h1, h2⟩ := push_flat s.regs.pc hs hlo hhi
  have hpop := pop_pushed (v := s.regs.pc) (s := u.setPc a16) (by rw [setPc_regs_sp, hregs]) h1 h2
  refine ⟨u.setPc a16, jump s.regs.pc ((addHooks 2 (u.setPc a16)).setSp s.regs.sp),
    by rw [exec_call hi, hpush, bind_ok, outcome_ok], rfl, by rw [exec_ret rfl, hpop, bind_ok, outcome_ok], ?_,
    hstatus, hcart⟩
  show { u.regs with pc := s.regs.pc, sp := s.regs.sp } = s.regs
  rw [hregs]

end Sys2Proof.Machine
end

section
/-! PROOFS. The extended table (44_extended_cb.md), and the views of the registers: flags, pairs and the rank accessor
(10_state.md R21–R29). -/

namespace Sys2Proof.Machine

/-! ## Bits -/

theorem bitField_eq_ofNat (n : Fin 8) : bitField n = BitVec.ofNat 3 n.val := eq_ofNat_of_toNat rfl

theorem oneBit_eq_ofNat (n : Fin 8) : 1#8 <<< n.val = BitVec.ofNat 8 (2 ^ n.val) := by
  revert n; decide

set_option maxRecDepth 4000 in
theorem and_0x10 (x : Byte) : x &&& 0x10 = if x.getLsbD 4 then 0x10 else 0 := by
  revert x; decide

/-- F after a bit test: Z from the bit, N clear, H set, C kept (R241). -/
theorem bitTestFlags_toByte (n : Fin 8) (b : Byte) (g : Regs) :
    (bitTestFlags n b g.flags).toByte = (if b.getLsbD n then 0 else 0x80) ||| 0x20 ||| (g.f &&& 0x10) := by
  rw [and_0x10]
  show (if !b.getLsbD n then (0x80 : Byte) else 0) ||| 0 ||| 0x20 ||| _ = _
  cases b.getLsbD n <;> rfl

/-- Settles O48: the flags of `bitTestFlags_toByte`, or the operand's fault. -/
theorem bitTestWritesZNHAndKeepsC : Obligations.BitTestWritesZNHAndKeepsC := by
  intro i n r s hi
  have hexec : exec i s = ((readOperand r s).bind fun b s =>
    .ok () (s.setRegs (s.regs.setFlags (bitTestFlags n b s.regs.flags)))).outcome := exec_of_form hi s
  rw [hexec]
  refine ⟨by rw [encode, hi, ← bitField_eq_ofNat]; rfl, fun b hb => ?_, fun f hf => operand_fault _ hf⟩
  rw [readOperand_of_ok hb, bind_ok, outcome_ok, ← bitTestFlags_toByte, ← Flags.toByte_and_F0]
  rfl

/-- Settles O49: RES and SET read the operand, then write it back changed. -/
theorem bitClearAndBitSetWriteTheOperand : Obligations.BitClearAndBitSetWriteTheOperand := by
  intro i n r s change kk hform
  have henc : encode i = [0xCB, kk ++ BitVec.ofNat 3 n.val ++ r.code] := by
    rw [← bitField_eq_ofNat]
    rcases hform with ⟨hi, rfl, -⟩ | ⟨hi, rfl, -⟩ <;> rw [encode, hi] <;> rfl
  have hexec : exec i s = ((readOperand r s).bind fun b s => writeOperand r (change b) s).outcome := by
    rcases hform with ⟨hi, -, rfl⟩ | ⟨hi, -, rfl⟩ <;> rw [exec_of_form hi, ← oneBit_eq_ofNat] <;> rfl
  rw [hexec]
  refine ⟨henc, fun b hb hr => ?_, fun b t hb hr hw => ?_, fun b f hb hr hw => ?_, fun f hf => operand_fault _ hf⟩
  · rw [readOperand_of_ok hb, bind_ok, operandHooks_of_ne hr, addHooks_zero, writeOperand_register _ s hr]
    rfl
  · subst hr
    rw [readOperand_of_ok hb, bind_ok, writeOperand_hlInd, addHooks_regs, writeByte_of_ok (routerWrite_addHooks_ok _ hw)]
    rfl
  · subst hr
    rw [readOperand_of_ok hb, bind_ok, writeOperand_hlInd, addHooks_regs,
      writeByte_of_error (routerWrite_addHooks_error _ hw)]
    exact ⟨rfl, routerWrite_error hw⟩

/-! ## Flags and pairs -/

/-- AF reads back with its low nibble 0 (R29; D15). -/
theorem wordOfBytes_lowByte_and_F0 (v : Addr) : wordOfBytes (highByte v) (lowByte v &&& 0xF0) = v &&& 0xFFF0 := by
  have hhi : highByte (v &&& 0xFFF0) = highByte v := by
    rw [highByte, BitVec.extractLsb'_and]
    exact BitVec.and_allOnes
  have hlo : lowByte (v &&& 0xFFF0) = lowByte v &&& 0xF0 := by
    rw [lowByte, BitVec.extractLsb'_and]
    rfl
  rw [← wordOfBytes_high_low (v &&& 0xFFF0), hhi, hlo]

/-- Settles O50: the flags through F's upper nibble, and each pair through its two bytes. -/
theorem flagsAndPairsReadBack : Obligations.FlagsAndPairsReadBack := by
  refine ⟨fun x g => ⟨?_, and_F0_and_0F _, rfl⟩, fun g => ⟨wordOfBytes_toNat _ _, wordOfBytes_toNat _ _,
    wordOfBytes_toNat _ _, wordOfBytes_toNat _ _⟩, fun v g => ⟨wordOfBytes_high_low v, wordOfBytes_high_low v,
    wordOfBytes_high_low v, wordOfBytes_lowByte_and_F0 v, rfl, rfl, rfl, rfl⟩⟩
  rw [Regs.flags, setFlags_f, Flags.toByte_and_F0, Flags.ofByte_toByte]

/-! ## The rank accessor by number -/

/-- The numbers of the ranks (R24). -/
theorem rankOfNumber_eq_getElem? (k : Nat) : rankOfNumber k = [Rank.b, .c, .d, .e, .h, .l, .hlInd, .a][k]? := by
  match k with
  | 0 | 1 | 2 | 3 | 4 | 5 | 6 | 7 => rfl
  | k + 8 => rfl

theorem readOperandNumber_of_rank {k : Nat} {r : Rank} (s : State) (h : rankOfNumber k = some r) :
    readOperandNumber k s = readOperand r s := by
  rw [readOperandNumber, h]

theorem writeOperandNumber_of_rank {k : Nat} {r : Rank} (v : Byte) (s : State) (h : rankOfNumber k = some r) :
    writeOperandNumber k v s = writeOperand r v s := by
  rw [writeOperandNumber, h]

/-- A register by its number: read and written without a hook. -/
theorem operandNumber_register {k : Nat} {r : Rank} {x : Byte} (v : Byte) {s : State} (h : rankOfNumber k = some r)
    (hr : r ≠ .hlInd) (hx : operandValue r s = .ok x) :
    operandValue r s = .ok x ∧ readOperandNumber k s = .ok x s ∧
      writeOperandNumber k v s = .ok () (s.setRegs (s.regs.withRank r v)) := by
  rw [readOperandNumber_of_rank s h, writeOperandNumber_of_rank v s h, writeOperand_register v s hr, readOperand_of_ok hx,
    operandHooks_of_ne hr]
  exact ⟨hx, rfl, rfl⟩

/-- Settles O51: the numbers of the registers, of (HL), of every rank, and beyond. -/
theorem rankAccessorMapsZeroToSeven : Obligations.RankAccessorMapsZeroToSeven := by
  intro k s v
  refine ⟨fun r x h => ?_, ?_, fun r h => ?_, fun h => ?_⟩
  · rcases h with h | ⟨rfl, rfl, rfl⟩
    · match k, h with
      | 0, h | 1, h | 2, h | 3, h | 4, h | 5, h => cases h; exact operandNumber_register v rfl (by decide) rfl
      | k + 6, h => simp at h
    · exact operandNumber_register v rfl (by decide) rfl
  · rintro rfl
    exact ⟨rfl, fun b h => readByte_of_ok h, fun f h => readByte_of_error h, fun t h => writeByte_of_ok h,
      fun f h => writeByte_of_error h⟩
  · rw [← rankOfNumber_eq_getElem?] at h
    exact ⟨readOperandNumber_of_rank s h, writeOperandNumber_of_rank v s h⟩
  · have hnone : rankOfNumber k = none := if_neg (by omega)
    rw [readOperandNumber, writeOperandNumber, hnone]
    exact ⟨rfl, rfl⟩

end Sys2Proof.Machine
end
